-- ==== Sys2Proof/Word.lean ====
section
/-! DEFINITION. The word types: bytes, the identifier word's fields, 32-bit patterns (00_scope.md R8, R9). -/

namespace Sys2Proof

/-- R8: a byte is 8 bits, bit 0 its least significant bit. -/
abbrev Byte := BitVec 8

/-- R87: the 16-bit variable identifier word; also a 16-bit value (R93). -/
abbrev Half := BitVec 16

/-- R8, R92: the 32-bit two's-complement pattern of a signed 32-bit value; `BitVec.toInt` reads it (`signed32`). -/
abbrev Word32 := BitVec 32

/-- R98: an axis number, 3 bits unsigned. -/
abbrev Axis := BitVec 3

/-- R98: a variable number, 9 bits unsigned. -/
abbrev VarNum := BitVec 9

/-- R98 `b2`: a sequence of exactly two bytes, `b0` first on the wire. -/
structure Bytes2 where
  b0 : Byte
  b1 : Byte
  deriving DecidableEq, Repr

/-- R98 `b4`: a sequence of exactly four bytes, `b0` first on the wire. -/
structure Bytes4 where
  b0 : Byte
  b1 : Byte
  b2 : Byte
  b3 : Byte
  deriving DecidableEq, Repr

/-- R9: the sequence of a `b2`. -/
def Bytes2.toList (w : Bytes2) : List Byte := [w.b0, w.b1]

/-- R9: the sequence of a `b4`. -/
def Bytes4.toList (w : Bytes4) : List Byte := [w.b0, w.b1, w.b2, w.b3]

end Sys2Proof
end

