-- ==== Sys2Proof/Config.lean ====
section
/-! DEFINITION. The constants of the block (00_scope.md R7, 10_state.md R34) and the parameters the spec leaves as
arguments of the model (R7; 92_eei_decisions.md "Named parameters the model takes").

A machine's parameters are ONE record of plain data, held in the machine's state beside the registers and written by no
step, so that a statement over every state is a statement over every value of every parameter. -/

namespace Sys2Proof

/-- R61, D18, C3: `INT_WIRE_ORDER`, the order in which a multi-byte integer value travels. -/
inductive WireOrder where
  | lsbFirst
  | msbFirst
  deriving DecidableEq, Repr

/-- R155, R156, D20, C4: `TRAJ_SUBCMD`, where the trajectory sub-command travels. -/
inductive TrajSubcmd where
  | none
  | payloadWord
  deriving DecidableEq, Repr

/-- R151, D22, C5: `CLEARFAULTS_FILL`, the value bytes of `clearFaults`. -/
inductive ClearfaultsFill where
  | allFF
  | sourceBug
  deriving DecidableEq, Repr

/-- R7: the parameters of the model. -/
structure Config where
  /-- `INT_WIRE_ORDER`, default `LSB_FIRST`. -/
  intWireOrder : WireOrder
  /-- `TRAJ_SUBCMD`, default `NONE`. -/
  trajSubcmd : TrajSubcmd
  /-- `CLEARFAULTS_FILL`, default `ALL_FF`. -/
  clearfaultsFill : ClearfaultsFill
  /-- `N_PORTS`, OPEN, at least 1. -/
  nPorts : Nat
  /-- `RX_DEPTH`, OPEN: `none` is unbounded, `some d` a depth of `d >= 514` bytes. -/
  rxDepth : Option Nat
  deriving DecidableEq, Repr

/-- The bounds R7 puts on the open parameters: `N_PORTS >= 1`; `RX_DEPTH` unbounded or `>= 514`. -/
def Config.wf (c : Config) : Bool :=
  decide (1 ≤ c.nPorts) && (match c.rxDepth with | none => true | some d => decide (514 ≤ d))

/-- The defaults of R7. `N_PORTS = 1` and `RX_DEPTH` unbounded are DESIGN CHOICES (log entry 1): the spec leaves both
open. No statement rests on them. -/
def Config.default : Config where
  intWireOrder := .lsbFirst
  trajSubcmd := .none
  clearfaultsFill := .allFF
  nPorts := 1
  rxDepth := none

/-- R7, R34: `CHK_CONST`. -/
def chkConst : Byte := 0x5A#8
/-- R7, R29: `POLL_MS`, milliseconds between ticks. -/
def pollMs : Nat := 100
/-- R7, R34: `T_DEFAULT_MS`. -/
def tDefaultMs : BitVec 16 := 15000#16
/-- R7, R34: `T_PROBE_MS`. -/
def tProbeMs : BitVec 16 := 2000#16
/-- R7, R34: `PING_SIG`. -/
def pingSig : List Byte := [0x00#8, 0x5B#8, 0x01#8, 0x00#8, 0x00#8, 0x00#8]
/-- R7, R98: `MAX_PAYLOAD`, bytes. -/
def maxPayload : Nat := 510

/-- R86: `OP_OPMODE`. -/
def opOpmode : Byte := 0x07#8
/-- R86, C1: `OP_GETVAR`. -/
def opGetvar : Byte := 0x0C#8
/-- R86, C1: `OP_SETVAR`. -/
def opSetvar : Byte := 0x0D#8
/-- R86: `OP_TRAJ`. -/
def opTraj : Byte := 0x11#8

/-- R89: `VAR_FAULT`, latchedFaultRegister. -/
def varFault : VarNum := 0x0A1#9
/-- R89: `VAR_PROFILE`, trajectoryProfileMode. -/
def varProfile : VarNum := 0x0C8#9
/-- R89: `VAR_POSCMD`, positionCommand. -/
def varPoscmd : VarNum := 0x0CA#9
/-- R89: `VAR_AMP`, amplifierState. -/
def varAmp : VarNum := 0x024#9
/-- R89: `VAR_ACTPOS`, actualPosition. -/
def varActpos : VarNum := 0x017#9
/-- R89: `SUB_MOVE`. -/
def subMove : Byte := 0x01#8
/-- R89: `SUB_HOME`. -/
def subHome : Byte := 0x02#8

/-- R34, D37: the parity of the character frame. -/
inductive Parity where
  | none
  deriving DecidableEq, Repr

/-- R34, D37: the handshake of the line. -/
inductive Handshake where
  | none
  deriving DecidableEq, Repr

/-- R34, R265, D37: the serial parameters a port is opened with. -/
structure SerialParams where
  baud : Nat
  dataBits : Nat
  parity : Parity
  stopBits : Nat
  handshake : Handshake
  deriving DecidableEq, Repr

/-- R182, R265: "9600 baud, no parity, 8 data bits, 1 stop bit, no handshake", hard-wired and the same on every port. -/
def serialParams : SerialParams where
  baud := 9600
  dataBits := 8
  parity := .none
  stopBits := 1
  handshake := .none

end Sys2Proof
end

