-- ==== Sys2Proof/Syntax.lean ====
section
/-! DEFINITION. The syntax: packets (00_scope.md R10, 30_encoding.md R80), the host command port's word (R97, R98), and
`Instr`, one constructor for every row of opcode_table.json (22 host commands, the reserved codes, 11 wire formats). -/

namespace Sys2Proof

/-- R10, R80: a packet value, four header bytes and a payload of any length. -/
structure Packet where
  node : Byte
  checksum : Byte
  dataSize : Byte
  opcode : Byte
  payload : List Byte
  deriving DecidableEq, Repr

/-- R10: the zero packet `ZERO_PKT`. -/
def Packet.zero : Packet := ⟨0#8, 0#8, 0#8, 0#8, []⟩

/-- The instructions: one constructor per row of opcode_table.json. -/
inductive Instr where
  /-- `ENCODE pkt` (R120). -/
  | encode (pkt : Packet)
  /-- `DECODE bytes` (R121). -/
  | decode (bytes : List Byte)
  /-- `CHKVALID pkt` (R122). -/
  | chkvalid (pkt : Packet)
  /-- `SEAL pkt` (R123). -/
  | sealPkt (pkt : Packet)
  /-- `PACKVID axis, varnum` (R124). -/
  | packvid (axis : Axis) (varnum : VarNum)
  /-- `UNPACKVID b2` (R125). -/
  | unpackvid (b2 : Bytes2)
  /-- `I32TOW pos` (R126). -/
  | i32tow (pos : Word32)
  /-- `WTOI32 b4` (R127). -/
  | wtoi32 (b4 : Bytes4)
  /-- `PING` (R150). -/
  | ping
  /-- `CLEARFAULTS` (R151). -/
  | clearfaults
  /-- `SETTRAJABS axis` (R152). -/
  | settrajabs (axis : Axis)
  /-- `AMPON axis` (R153). -/
  | ampon (axis : Axis)
  /-- `AMPOFF axis` (R154). -/
  | ampoff (axis : Axis)
  /-- `HOME axis` (R155). -/
  | home (axis : Axis)
  /-- `STARTMOVE axis` (R156). -/
  | startmove (axis : Axis)
  /-- `READPOS axis` (R157). -/
  | readpos (axis : Axis)
  /-- `SETPOS axis, pos` (R158). -/
  | setpos (axis : Axis) (pos : Word32)
  /-- `CONNECT auto, port` (R185). -/
  | connect (auto : Bool) (port : Nat)
  /-- `DISCONNECT` (R186). -/
  | disconnect
  /-- `ISCONNECTED` (R187). -/
  | isconnected
  /-- `EXCHANGE pkt, tmo` (R188). -/
  | exchange (pkt : Packet) (tmo : BitVec 16)
  /-- `GETPOS axis` (R190). -/
  | getpos (axis : Axis)
  /-- `RESERVED`: every other command code (R101). -/
  | reserved (code : Byte)
  /-- `WIRE.PING`: the request `00 5D 00 07` (R150). -/
  | wirePing
  /-- `WIRE.CLEARFAULTS`: the ten-byte request of R151. -/
  | wireClearfaults
  /-- `WIRE.SETTRAJABS`: the request of R152; `c` is its checksum byte as it stands on the wire. -/
  | wireSettrajabs (a : Axis) (c : Byte)
  /-- `WIRE.AMPON`: the request of R153. -/
  | wireAmpon (a : Axis) (c : Byte)
  /-- `WIRE.AMPOFF`: the request of R154. -/
  | wireAmpoff (a : Axis) (c : Byte)
  /-- `WIRE.HOME`: the request of R155. -/
  | wireHome (a : Axis) (c : Byte)
  /-- `WIRE.STARTMOVE`: the request of R156. -/
  | wireStartmove (a : Axis) (c : Byte)
  /-- `WIRE.READPOS`: the request of R157. -/
  | wireReadpos (a : Axis) (c : Byte)
  /-- `WIRE.SETPOS`: the request of R158; `v` is the position's 32-bit pattern. -/
  | wireSetpos (a : Axis) (c : Byte) (v : Word32)
  /-- `WIRE.PING_RESPONSE`: the response `00 5B 01 00 00 00` (R91). -/
  | wirePingResponse
  /-- `WIRE.GENERIC`: any packet (R80). -/
  | wireGeneric (pkt : Packet)
  deriving DecidableEq, Repr

/-- R97, R98: the argument fields of the command port, side by side. A command uses the fields R100 names for it. -/
structure Args where
  pkt : Packet
  bytes : List Byte
  axis : Axis
  varnum : VarNum
  b2 : Bytes2
  b4 : Bytes4
  pos : Word32
  auto : Bool
  port : Nat
  tmo : BitVec 16
  deriving DecidableEq, Repr

/-- All argument fields zero or empty. -/
def Args.zero : Args :=
  ⟨Packet.zero, [], 0#3, 0#9, ⟨0#8, 0#8⟩, ⟨0#8, 0#8, 0#8, 0#8⟩, 0#32, false, 0, 0#16⟩

/-- What is presented to the decoder: a bundle on the host's command port (formats HOSTCMD; R97: "a bundle of typed
fields, not a packed word"), or the bytes of one packet on the wire, byte 0 first (formats WIRE_REQ, WIRE_RESP,
WIRE_PACKET). -/
inductive PortWord where
  | cmd (code : Byte) (args : Args)
  | wire (bytes : List Byte)
  deriving DecidableEq, Repr

/-- Why a presented word is no instruction. -/
inductive DecodeError where
  /-- R98: a `pkt` argument holds at most `MAX_PAYLOAD` payload bytes; a longer one cannot stand on the port. -/
  | payloadTooLong
  /-- R98, R33: a `bytes` argument is no longer than the result port can hold, with a finite `RX_DEPTH` that many bytes. -/
  | bytesTooLong
  /-- R80: a packet on the wire has at least its four header bytes. -/
  | shorterThanHeader
  deriving DecidableEq, Repr

end Sys2Proof
end

