-- ==== Sys2Proof/Machine/State.lean ====
section
/-! DEFINITION. The machine's state as plain data: the registers, queue and log of 10_state.md R20, the command port of R33
and 30_encoding.md R99 with the command in flight, and the model's own fields (the parameters of 00_scope.md R7 and the
inputs of the agents outside the block, R5, R39). -/

namespace Sys2Proof.Machine

/-- R22: the session state `ST`. -/
inductive SessionState where
  | closed
  | opening
  | probing
  | idle
  deriving DecidableEq, Repr

/-- R26: the phase `PH` of the exchange engine. -/
inductive Phase where
  | ready
  | poll
  deriving DecidableEq, Repr

/-- R23: the connection status `CONN`, a function of `ST`. -/
inductive ConnStatus where
  | disconnected
  | connecting
  | connected
  deriving DecidableEq, Repr

/-- R32, R256: the sticky bits of `DIAG`. -/
inductive DiagBit where
  | passthru
  | timeout
  | chkbad
  | probefail
  | openfail
  | badlen
  | rxovr
  | illcmd
  deriving DecidableEq, Repr

/-- R12: the status of a command's result. -/
inductive Status where
  | ok
  | illegal
  deriving DecidableEq, Repr

/-- R12, R100: the value of a command's result. A 32-bit signed value is held as its two's-complement pattern (R132). -/
inductive Value where
  | bytes (s : List Byte)
  | pkt (p : Packet)
  | bool (b : Bool)
  | b2 (w : Bytes2)
  | b4 (w : Bytes4)
  | vid (axis : Axis) (bank : BitVec 1) (varnum : VarNum)
  | int32 (v : Word32)
  deriving DecidableEq, Repr

/-- R12, R33: the result record on the result port; `value` is `none` only with status `ILLEGAL` (R101). -/
structure Result where
  status : Status
  value : Option Value
  deriving DecidableEq, Repr

/-- Who runs a probe (R184): `ISCONNECTED`, or `CONNECT` with the ports it has still to try. -/
inductive ProbeCaller where
  | isconnected
  | connect (rest : List Nat)
  deriving DecidableEq, Repr

/-- Who runs an exchange (R183) and takes its packet: `EXCHANGE`, `GETPOS`, a probe, or the `clearFaults` exchange of
`CONNECT` (R185). -/
inductive XchgCaller where
  | exchange
  | getpos (axis : Axis)
  | probe (k : ProbeCaller)
  | clear
  deriving DecidableEq, Repr

/-- The lines of `xchg` (R183), each with the values its local names hold. -/
inductive XchgLine where
  /-- `if ST = Closed` -/
  | test (p : Packet) (tmo : BitVec 16)
  /-- `diag(PASSTHRU)` -/
  | passDiag (p : Packet)
  /-- `return p` -/
  | passReturn (p : Packet)
  /-- `TxWrite(ENCODE(p))`, and in the same step `Opening` becomes `Probing` -/
  | write (p : Packet) (tmo : BitVec 16)
  /-- `TMO <- tmo ; EL <- 0 ; PH <- Poll` -/
  | latch (tmo : BitVec 16)
  /-- `n <- RxAvail()` -/
  | avail
  /-- `if n >= 4 or EL >= TMO: exit loop` -/
  | check (n : Nat)
  /-- `wait_tick()` -/
  | wait
  /-- `EL <- EL + 100` -/
  | count
  /-- `r <- RxDrain()` -/
  | drain
  /-- `PH <- Ready` -/
  | ready (r : List Byte)
  /-- `if len(r) < 4: diag(TIMEOUT)` -/
  | short (r : List Byte)
  /-- `return DECODE(r)` -/
  | ret (r : List Byte)
  deriving DecidableEq, Repr

/-- The lines of `probe` (R184) after its exchange. -/
inductive ProbeLine where
  /-- `ok <- (r = SIG_PKT)` -/
  | compare (r : Packet)
  /-- `if not ok: diag(PROBEFAIL)` -/
  | note (ok : Bool)
  /-- `return ok` -/
  | ret (ok : Bool)
  deriving DecidableEq, Repr

/-- The lines of `GETPOS` (R190) after its exchange. -/
inductive GetposLine where
  /-- `if not CHKVALID(r)` -/
  | valid (r : Packet)
  /-- `diag(CHKBAD)` -/
  | chkbad
  /-- `if len(r.payload) != 4` -/
  | length (r : Packet)
  /-- `diag(BADLEN)` -/
  | badlen
  /-- `LASTPOS[axis] <- WTOI32(r.payload)` -/
  | store (w : Bytes4)
  /-- `return LASTPOS[axis]` -/
  | ret
  deriving DecidableEq, Repr

/-- The lines of `CONNECT`, `connect_one` (R185) and `open_port` (R182) outside their exchanges. -/
inductive ConnectLine where
  /-- `if ST = Idle: return true` -/
  | test (auto : Bool) (port : Nat)
  /-- `if auto = 0: return connect_one(port)` -/
  | mode (auto : Bool) (port : Nat)
  /-- `for p = 0, 1, ..., N_PORTS-1 in this order`: the next port of those left -/
  | scan
  /-- `if p >= N_PORTS or not open_ok(p)` -/
  | ask (p : Nat)
  /-- `diag(OPENFAIL)` -/
  | openfail
  /-- `PORT <- p ; RXQ <- [] ; ST <- Opening` -/
  | opening (p : Nat)
  /-- `close_port()` -/
  | close
  /-- `xchg(CLEARFAULTS(), T_DEFAULT_MS)` -/
  | clear
  /-- `ST <- Idle` -/
  | idle
  /-- `return` of `connect_one` -/
  | one (ok : Bool)
  /-- `return` of `CONNECT` -/
  | ret (ok : Bool)
  deriving DecidableEq, Repr

/-- R33, R99: the command in flight, with its latched arguments and the line of its pseudocode that is next. The
commands that wait (R5: those that contain an exchange) are the only ones that are in flight between two block steps. -/
inductive Job where
  | xchg (k : XchgCaller) (l : XchgLine)
  | probe (k : ProbeCaller) (l : ProbeLine)
  | getpos (axis : Axis) (l : GetposLine)
  | connect (rest : List Nat) (l : ConnectLine)
  deriving DecidableEq, Repr

/-- The next things the agents outside the block do (R5, R39), oldest first. They are the environment's free choice: a
statement over every state is a statement over every list of them (log entry 2, DESIGN CHOICE). -/
inductive Input where
  /-- The line environment appends a byte to the receive stream (R52). -/
  | rx (b : Byte)
  /-- The tick source delivers a tick event (R29). -/
  | tick
  /-- The block takes its next line before the inputs that follow. -/
  | go
  /-- Nothing else happens outside, ticks apart, until the command in flight ends. -/
  | await
  /-- The observer looks at the status outputs: the step ends here, a command in flight or not. -/
  | look
  /-- The reset input is asserted (R290). -/
  | reset
  /-- A word is presented: a command with a `start` pulse (R99), or a packet of a wire row. -/
  | word (w : PortWord)
  deriving DecidableEq, Repr

/-- The faults: none. "The block raises no exception, takes no trap and has no handler" (R250). -/
inductive Fault where
  deriving DecidableEq, Repr

/-- Why a step answers no state. -/
inductive Refusal where
  /-- An instruction that has no meaning yet; raised by no arm of `exec`. Safe: nothing follows of such a step. -/
  | notModelled (mnemonic : String)
  /-- `step` was given a word that cannot stand on the command port or is no packet (R98, R33, R80). Safe: the spec says such a
  word cannot be presented, and nothing follows of such a step. -/
  | badWord (e : DecodeError)
  deriving DecidableEq, Repr

/-- The state. The first ten fields are R20's (`CONN` is derived, `State.conn`). -/
structure State where
  /-- `ST` (R22). -/
  st : SessionState
  /-- `PORT` (R25): a port index (a natural number: log entry 12, DESIGN CHOICE). -/
  port : Nat
  /-- `PH` (R26). -/
  ph : Phase
  /-- `TMO` (R28): milliseconds. -/
  tmo : BitVec 16
  /-- `EL` (R27): milliseconds. -/
  el : BitVec 17
  /-- `LASTPOS[0..7]` (R21): signed values as two's-complement patterns. -/
  lastpos : Vector Word32 8
  /-- `DIAG` (R32). -/
  diag : BitVec 8
  /-- `RXQ` (R30, R52): oldest byte first. -/
  rxq : List Byte
  /-- `TXLOG` (R31, R57): (port, byte) pairs, oldest first. -/
  txlog : List (Nat × Byte)
  /-- The command in flight with its argument registers (R33, R99); `busy` is its presence. -/
  job : Option Job
  /-- The result port (R33). -/
  result : Option Result
  /-- The `done` strobe of the handshake (R99): raised by the step on which a command ends (log entry
  9, DEDUCED). -/
  done : Bool
  /-- The model's own field: the parameters of the machine (R7, R39). No step writes it. -/
  cfg : Config
  /-- The model's own field: the environment's answers to the port-open attempts to come (R5, R182), oldest first. -/
  opens : List Bool
  /-- The model's own field: what the agents outside the block do next (R5), oldest first. -/
  inputs : List Input
  deriving DecidableEq, Repr

/-- R290: the state the reset input leaves. The parameters and the environment's inputs are not the block's and stay
(log entry 21, DEDUCED). The values are the spec's decisions (log entry 13); `LASTPOS` zero is U5's. -/
def State.resetWith (cfg : Config) (opens : List Bool) (inputs : List Input) : State where
  st := .closed
  port := 0
  ph := .ready
  tmo := 0#16
  el := 0#17
  lastpos := Vector.replicate 8 0#32
  diag := 0x00#8
  rxq := []
  txlog := []
  job := none
  result := none
  done := false
  cfg := cfg
  opens := opens
  inputs := inputs

/-- R290, R292: the machine right after reset, parameters at their defaults, nothing presented by the outside yet. -/
def State.reset : State := State.resetWith Config.default [] []

end Sys2Proof.Machine
end

