-- ==== Sys2Proof/Machine/Flags.lean ====
section
/-! DEFINITION. The block's only flags, the sticky bits of `DIAG` (10_state.md R32, R35), and the encoded status outputs
`ST`, `CONN`, `PH`, `busy` (R22, R23, R26, R267). -/

namespace Sys2Proof.Machine

/-- R32: the bit number of a diagnostic bit. -/
def DiagBit.index (b : DiagBit) : Nat :=
  match b with
  | .passthru => 0
  | .timeout => 1
  | .chkbad => 2
  | .probefail => 3
  | .openfail => 4
  | .badlen => 5
  | .rxovr => 6
  | .illcmd => 7

/-- R32: the register with one bit set. -/
def DiagBit.mask (b : DiagBit) : BitVec 8 := 1#8 <<< b.index

/-- R32: whether a diagnostic bit is set. -/
def State.diagBit (s : State) (b : DiagBit) : Bool := s.diag.getLsbD b.index

/-- R11, R32: `diag(NAME)` sets the named bit and does nothing else. -/
def State.note (s : State) (b : DiagBit) : State := { s with diag := s.diag ||| b.mask }

/-- R22: the encoding of `ST`. -/
def SessionState.code (x : SessionState) : BitVec 2 :=
  match x with
  | .closed => 0#2
  | .opening => 1#2
  | .probing => 2#2
  | .idle => 3#2

/-- R23: `CONN` is a function of `ST`. -/
def State.conn (s : State) : ConnStatus :=
  match s.st with
  | .closed => .disconnected
  | .opening => .connecting
  | .probing => .connecting
  | .idle => .connected

/-- R23: the encoding of `CONN`. -/
def ConnStatus.code (x : ConnStatus) : BitVec 2 :=
  match x with
  | .disconnected => 0#2
  | .connecting => 1#2
  | .connected => 2#2

/-- R26: the encoding of `PH`. -/
def Phase.code (x : Phase) : BitVec 1 :=
  match x with
  | .ready => 0#1
  | .poll => 1#1

/-- R26, R99: the `busy` output, true from the start of a command to its result. -/
def State.busy (s : State) : Bool := s.job.isSome

end Sys2Proof.Machine
end

