-- ==== Sys2Proof/Machine/Operands.lean ====
section
/-! DEFINITION. The operand forms: packets and byte sequences, the checksum, the variable identifier word, and integer
values in the machine's wire order (30_encoding.md R80 to R93; 40_codec.md R120 to R127). Pure functions. -/

namespace Sys2Proof.Machine

/-- R9: `xor_all`, the exclusive-or of all elements; `xor_all([]) = 0x00`. -/
def xorAll : List Byte → Byte
  | [] => 0x00#8
  | b :: s => b ^^^ xorAll s

/-- R10, R120: `bytes_of(p)`, the wire bytes of a packet, every field as given. -/
def bytesOf (p : Packet) : List Byte := [p.node, p.checksum, p.dataSize, p.opcode] ++ p.payload

/-- R121: a sequence of four bytes or more is a packet; a shorter one is the zero packet. -/
def packetOf (s : List Byte) : Packet :=
  match s with
  | node :: checksum :: dataSize :: opcode :: payload => ⟨node, checksum, dataSize, opcode, payload⟩
  | _ => Packet.zero

/-- R82, R122: whether a packet is checksum-valid. -/
def checksumValid (p : Packet) : Bool :=
  (p.node ^^^ p.checksum ^^^ p.dataSize ^^^ p.opcode ^^^ xorAll p.payload) == chkConst

/-- R82, R123: the packet with the checksum a producer sets; no other field changes. -/
def sealPacket (p : Packet) : Packet :=
  { p with checksum := p.node ^^^ p.dataSize ^^^ p.opcode ^^^ xorAll p.payload ^^^ chkConst }

/-- R88: the variable identifier word `zext_16(varnum) | (zext_16(axis) << 13)`. -/
def vidWord (axis : Axis) (varnum : VarNum) : Half := varnum.setWidth 16 ||| (axis.setWidth 16 <<< 13)

/-- R60, R124: the identifier word's two bytes, high byte first. -/
def packVid (axis : Axis) (varnum : VarNum) : Bytes2 :=
  let w := vidWord axis varnum
  ⟨w.extractLsb' 8 8, w.extractLsb' 0 8⟩

/-- R87, R125: the word two bytes stand for, `b0 : b1`. -/
def vidOf (b2 : Bytes2) : Half := b2.b0 ++ b2.b1

/-- R87: bits 15:13 of the identifier word. -/
def vidAxis (w : Half) : Axis := w.extractLsb' 13 3

/-- R87: bit 12 of the identifier word. -/
def vidBank (w : Half) : BitVec 1 := w.extractLsb' 12 1

/-- R87: bits 8:0 of the identifier word; bits 11:9 are read by nothing (R95, D28). -/
def vidVarnum (w : Half) : VarNum := w.extractLsb' 0 9

/-- R61, R92, R126: `val32`, the four wire bytes of a 32-bit pattern. -/
def val32 (o : WireOrder) (u : Word32) : Bytes4 :=
  match o with
  | .lsbFirst => ⟨u.extractLsb' 0 8, u.extractLsb' 8 8, u.extractLsb' 16 8, u.extractLsb' 24 8⟩
  | .msbFirst => ⟨u.extractLsb' 24 8, u.extractLsb' 16 8, u.extractLsb' 8 8, u.extractLsb' 0 8⟩

/-- R61, R92, R127: `int32_of`, the 32-bit pattern of four wire bytes. -/
def int32Of (o : WireOrder) (w : Bytes4) : Word32 :=
  match o with
  | .lsbFirst => w.b3 ++ w.b2 ++ w.b1 ++ w.b0
  | .msbFirst => w.b0 ++ w.b1 ++ w.b2 ++ w.b3

/-- R61, R93: `val16`, the two wire bytes of a 16-bit value. -/
def val16 (o : WireOrder) (h : Half) : Bytes2 :=
  match o with
  | .lsbFirst => ⟨h.extractLsb' 0 8, h.extractLsb' 8 8⟩
  | .msbFirst => ⟨h.extractLsb' 8 8, h.extractLsb' 0 8⟩

/-- R159: `mk`, the common builder of the catalog. -/
def mkPacket (node opcode : Byte) (payload : List Byte) : Packet :=
  sealPacket ⟨node, 0x00#8, BitVec.ofNat 8 (payload.length / 2), opcode, payload⟩

/-- R184: `SIG_PKT = DECODE(PING_SIG)`. -/
def sigPacket : Packet := packetOf pingSig

end Sys2Proof.Machine
end

