-- ==== Sys2Proof/Machine/Ops.lean ====
section
/-! DEFINITION. The operations the meanings share: the stream primitives (20_memory.md R52 to R57), the port primitives
(42_transport.md R182, R189), the position register file (10_state.md R21), the command handshake (30_encoding.md R99) and
reset (70_reset_and_hazards.md R290).

There is no exception to take and none to return from (60_exceptions.md R250, R259, R260): what stands in their place is
`State.note` (Flags.lean), the one operation every failure goes through. -/

namespace Sys2Proof.Machine

/-! ### The position register file -/

/-- R21: the register `LASTPOS[a]`. -/
def State.lastposAt (s : State) (a : Axis) : Word32 := s.lastpos[a.toNat]'(a.isLt)

/-- R21, R190: `LASTPOS[a] <- v`. -/
def State.setLastpos (s : State) (a : Axis) (v : Word32) : State :=
  { s with lastpos := s.lastpos.set a.toNat v a.isLt }

/-! ### The receive queue -/

/-- R54: whether `RXQ` holds `RX_DEPTH` bytes. -/
def State.rxFull (s : State) : Bool :=
  match s.cfg.rxDepth with
  | none => false
  | some d => decide (d ≤ s.rxq.length)

/-- R52, R54: the line environment appends a byte at the tail of `RXQ`; nothing is received while `ST = Closed`, and a byte
that meets a full queue is discarded with `diag(RXOVR)`. -/
def State.arrive (s : State) (b : Byte) : State :=
  match s.st with
  | .closed => s
  | .opening | .probing | .idle => if s.rxFull then s.note .rxovr else { s with rxq := s.rxq ++ [b] }

/-- R52: bytes arrive one after another. -/
def State.arriveAll (s : State) : List Byte → State
  | [] => s
  | b :: bs => (s.arrive b).arriveAll bs

/-- R55: `RxAvail()`. -/
def State.rxAvail (s : State) : Nat := s.rxq.length

/-- R53, R56: the emptying of `RXQ` that `RxDrain()`, `open_port` and `close_port` do; `RxDrain` returns the old content. -/
def State.rxClear (s : State) : State := { s with rxq := [] }

/-! ### The transmit stream -/

/-- R57: `TxWrite(bs)` appends every byte to `TXLOG`, tagged with `PORT`, in one step. -/
def State.txWrite (s : State) (bs : List Byte) : State :=
  { s with txlog := s.txlog ++ bs.map (fun b => (s.port, b)) }

/-! ### The session state and the ports -/

/-- `ST <- x`. -/
def State.setSt (s : State) (x : SessionState) : State := { s with st := x }

/-- R183: in the step of the write, `if ST = Opening then ST <- Probing`. -/
def State.leaveOpening (s : State) : State :=
  match s.st with
  | .opening => s.setSt .probing
  | .closed | .probing | .idle => s

/-- R182: `p >= N_PORTS or not open_ok(p)`, negated: whether an attempt to open port `p` succeeds. -/
def State.openOk (s : State) (p : Nat) : Bool :=
  decide (p < s.cfg.nPorts) && s.opens.headD false

/-- R182: the environment is asked once per attempt, and only for a port below `N_PORTS`; its answer is used up. An
attempt for which no answer stands in `opens` is refused (log entry 3, DESIGN CHOICE). -/
def State.askOpen (s : State) (p : Nat) : State :=
  if p < s.cfg.nPorts then { s with opens := s.opens.tail } else s

/-- R182: `PORT <- p ; RXQ <- [] ; ST <- Opening`, the opening of a port as one event (R53, R181;
log entry 6, DEDUCED). -/
def State.openPort (s : State) (p : Nat) : State := { s.rxClear with port := p, st := .opening }

/-- R189: `close_port()`, the closing of a port as one event (R53, R181; log entry 6, DEDUCED). -/
def State.closePort (s : State) : State := { s.rxClear with ph := .ready, st := .closed }

/-! ### The exchange engine's registers -/

/-- R183: `TMO <- tmo ; EL <- 0 ; PH <- Poll`. -/
def State.latchTimer (s : State) (tmo : BitVec 16) : State := { s with tmo := tmo, el := 0#17, ph := .poll }

/-- R183: `EL <- EL + 100`, on 17 bits. -/
def State.countTick (s : State) : State := { s with el := s.el + 100#17 }

/-- R183, R132: `EL >= TMO`, unsigned. -/
def State.timedOut (s : State) : Bool := decide (s.tmo.toNat ≤ s.el.toNat)

/-- R183: `PH <- Ready`. -/
def State.setReady (s : State) : State := { s with ph := .ready }

/-! ### The command handshake -/

/-- R99, R33: `start` is taken: the old result leaves the result port and `done` is low. -/
def State.accept (s : State) : State := { s with result := none, done := false }

/-- The block's next line. -/
def State.goto (s : State) (j : Job) : State := { s with job := some j }

/-- R99: the result record is placed on the result port, `done` is pulsed and `busy` falls. -/
def State.finish (s : State) (r : Result) : State := { s with job := none, result := some r, done := true }

/-- R12: a command ends with status `OK` and a value. -/
def State.complete (s : State) (v : Value) : State := s.finish ⟨.ok, some v⟩

/-- R101: a reserved command ends with status `ILLEGAL` and no value. -/
def State.reject (s : State) : State := s.finish ⟨.illegal, none⟩

/-- R99: a command starts when `busy` is false; while it is true a `start` is ignored. -/
def State.issue (s : State) (f : State → State) : Host.Outcome State Fault Refusal :=
  if s.busy then .next s else .next (f s.accept)

/-! ### Reset -/

/-- R290: the reset input: every register at its reset value, no command in flight, no result. -/
def State.doReset (s : State) : State := State.resetWith s.cfg s.opens s.inputs

end Sys2Proof.Machine
end

