-- ==== Sys2Proof/Machine/Catalog.lean ====
section
/-! DEFINITION. The command catalog (41_catalog.md R150 to R159): nine packet constructors, and the meanings of the nine
commands. They read no register and write none but the result port (10_state.md R36). -/

namespace Sys2Proof.Machine

/-- R81, R152: `zext_8(axis)`, the node byte of an addressed operation. -/
def nodeOf (axis : Axis) : Byte := axis.setWidth 8

/-- R150. -/
def pingPacket : Packet := mkPacket 0x00#8 opOpmode []

/-- R151: the fill bytes, in payload order. -/
def faultFill (f : ClearfaultsFill) : List Byte :=
  match f with
  | .allFF => [0xFF#8, 0xFF#8, 0xFF#8, 0xFF#8]
  | .sourceBug => [0xFF#8, 0x00#8, 0x00#8, 0x00#8]

/-- R151. -/
def clearfaultsPacket (cfg : Config) : Packet :=
  mkPacket 0x00#8 opSetvar ((packVid 0#3 varFault).toList ++ faultFill cfg.clearfaultsFill)

/-- R90: a set-variable request on an axis: the identifier word, then the value's bytes. -/
def setVarPacket (axis : Axis) (var : VarNum) (value : List Byte) : Packet :=
  mkPacket (nodeOf axis) opSetvar ((packVid axis var).toList ++ value)

/-- R152. -/
def settrajabsPacket (cfg : Config) (axis : Axis) : Packet :=
  setVarPacket axis varProfile (val16 cfg.intWireOrder 0x0000#16).toList

/-- R153. -/
def amponPacket (cfg : Config) (axis : Axis) : Packet :=
  setVarPacket axis varAmp (val16 cfg.intWireOrder 0x0015#16).toList

/-- R154. -/
def ampoffPacket (cfg : Config) (axis : Axis) : Packet :=
  setVarPacket axis varAmp (val16 cfg.intWireOrder 0x0000#16).toList

/-- R158. -/
def setposPacket (cfg : Config) (axis : Axis) (pos : Word32) : Packet :=
  setVarPacket axis varPoscmd (val32 cfg.intWireOrder pos).toList

/-- R155, R156: a trajectory request: no payload, or one word that carries the sub-command. -/
def trajPacket (cfg : Config) (axis : Axis) (sub : Byte) : Packet :=
  match cfg.trajSubcmd with
  | .none => mkPacket (nodeOf axis) opTraj []
  | .payloadWord => mkPacket (nodeOf axis) opTraj [0x00#8, sub]

/-- R155. -/
def homePacket (cfg : Config) (axis : Axis) : Packet := trajPacket cfg axis subHome

/-- R156. -/
def startmovePacket (cfg : Config) (axis : Axis) : Packet := trajPacket cfg axis subMove

/-- R157, C2: the payload is the identifier word. -/
def readposPacket (axis : Axis) : Packet := mkPacket (nodeOf axis) opGetvar (packVid axis varActpos).toList

/-- `PING` (R150). -/
def execPing (s : State) : Host.Outcome State Fault Refusal :=
  s.issue fun s => s.complete (.pkt pingPacket)

/-- `CLEARFAULTS` (R151). -/
def execClearfaults (s : State) : Host.Outcome State Fault Refusal :=
  s.issue fun s => s.complete (.pkt (clearfaultsPacket s.cfg))

/-- `SETTRAJABS` (R152). -/
def execSettrajabs (axis : Axis) (s : State) : Host.Outcome State Fault Refusal :=
  s.issue fun s => s.complete (.pkt (settrajabsPacket s.cfg axis))

/-- `AMPON` (R153). -/
def execAmpon (axis : Axis) (s : State) : Host.Outcome State Fault Refusal :=
  s.issue fun s => s.complete (.pkt (amponPacket s.cfg axis))

/-- `AMPOFF` (R154). -/
def execAmpoff (axis : Axis) (s : State) : Host.Outcome State Fault Refusal :=
  s.issue fun s => s.complete (.pkt (ampoffPacket s.cfg axis))

/-- `HOME` (R155). -/
def execHome (axis : Axis) (s : State) : Host.Outcome State Fault Refusal :=
  s.issue fun s => s.complete (.pkt (homePacket s.cfg axis))

/-- `STARTMOVE` (R156). -/
def execStartmove (axis : Axis) (s : State) : Host.Outcome State Fault Refusal :=
  s.issue fun s => s.complete (.pkt (startmovePacket s.cfg axis))

/-- `READPOS` (R157). -/
def execReadpos (axis : Axis) (s : State) : Host.Outcome State Fault Refusal :=
  s.issue fun s => s.complete (.pkt (readposPacket axis))

/-- `SETPOS` (R158). -/
def execSetpos (axis : Axis) (pos : Word32) (s : State) : Host.Outcome State Fault Refusal :=
  s.issue fun s => s.complete (.pkt (setposPacket s.cfg axis pos))

end Sys2Proof.Machine
end

