-- ==== Sys2Proof/Machine/Codec.lean ====
section
/-! DEFINITION. The packet codec's eight commands (40_codec.md R120 to R127) and the reserved command codes
(30_encoding.md R101). The codec reads no register and writes none but the result port (10_state.md R36). -/

namespace Sys2Proof.Machine

/-- `ENCODE` (R120): every field as given; no check (C9). -/
def execEncode (pkt : Packet) (s : State) : Host.Outcome State Fault Refusal :=
  s.issue fun s => s.complete (.bytes (bytesOf pkt))

/-- `DECODE` (R121). -/
def execDecode (bytes : List Byte) (s : State) : Host.Outcome State Fault Refusal :=
  s.issue fun s => s.complete (.pkt (packetOf bytes))

/-- `CHKVALID` (R122). -/
def execChkvalid (pkt : Packet) (s : State) : Host.Outcome State Fault Refusal :=
  s.issue fun s => s.complete (.bool (checksumValid pkt))

/-- `SEAL` (R123). -/
def execSealPkt (pkt : Packet) (s : State) : Host.Outcome State Fault Refusal :=
  s.issue fun s => s.complete (.pkt (sealPacket pkt))

/-- `PACKVID` (R124). -/
def execPackvid (axis : Axis) (varnum : VarNum) (s : State) : Host.Outcome State Fault Refusal :=
  s.issue fun s => s.complete (.b2 (packVid axis varnum))

/-- `UNPACKVID` (R125). -/
def execUnpackvid (b2 : Bytes2) (s : State) : Host.Outcome State Fault Refusal :=
  s.issue fun s => s.complete (.vid (vidAxis (vidOf b2)) (vidBank (vidOf b2)) (vidVarnum (vidOf b2)))

/-- `I32TOW` (R126). -/
def execI32tow (pos : Word32) (s : State) : Host.Outcome State Fault Refusal :=
  s.issue fun s => s.complete (.b4 (val32 s.cfg.intWireOrder pos))

/-- `WTOI32` (R127). -/
def execWtoi32 (b4 : Bytes4) (s : State) : Host.Outcome State Fault Refusal :=
  s.issue fun s => s.complete (.int32 (int32Of s.cfg.intWireOrder b4))

/-- A reserved code (R101): `diag(ILLCMD)`, status `ILLEGAL`, no value; nothing else changes. Every reserved code acts
alike, so the code is not used. -/
def execReserved (_code : Byte) (s : State) : Host.Outcome State Fault Refusal :=
  s.issue fun s => (s.note .illcmd).reject

end Sys2Proof.Machine
end

