-- ==== Sys2Proof/Decode.lean ====
section
/-! DEFINITION. The decoder and the encoder: the command codes of 30_encoding.md R100 and R101, and the wire formats of
opcode_table.json (formats WIRE_REQ, WIRE_RESP, WIRE_PACKET), written from the table's bit patterns. -/

namespace Sys2Proof

/-! ### The wire rows: wire byte 0 first; within a byte the leftmost bit is bit 7 -/

/-- Row `WIRE.PING`: `00000000 01011101 00000000 00000111`. -/
def rowPing : Packet := ⟨0b00000000#8, 0b01011101#8, 0b00000000#8, 0b00000111#8, []⟩

/-- Row `WIRE.PING_RESPONSE`: `00000000 01011011 00000001 00000000 00000000 00000000`. -/
def rowPingResponse : Packet :=
  ⟨0b00000000#8, 0b01011011#8, 0b00000001#8, 0b00000000#8, [0b00000000#8, 0b00000000#8]⟩

/-- Row `WIRE.CLEARFAULTS`: `00000000 11110101 00000011 00001101 00000000 10100001 11111111 11111111 11111111 11111111`;
with `SOURCE_BUG` the bytes are `00 0A 03 0D 00 A1 FF 00 00 00`. -/
def rowClearfaults (cfg : Config) : Packet :=
  match cfg.clearfaultsFill with
  | .allFF =>
    ⟨0b00000000#8, 0b11110101#8, 0b00000011#8, 0b00001101#8,
      [0b00000000#8, 0b10100001#8, 0b11111111#8, 0b11111111#8, 0b11111111#8, 0b11111111#8]⟩
  | .sourceBug =>
    ⟨0b00000000#8, 0b00001010#8, 0b00000011#8, 0b00001101#8,
      [0b00000000#8, 0b10100001#8, 0b11111111#8, 0b00000000#8, 0b00000000#8, 0b00000000#8]⟩

/-- Row `WIRE.SETTRAJABS`: `00000aaa cccccccc 00000010 00001101 aaa00000 11001000 00000000 00000000`. -/
def rowSettrajabs (a : Axis) (c : Byte) : Packet :=
  ⟨0b00000#5 ++ a, c, 0b00000010#8, 0b00001101#8, [a ++ 0b00000#5, 0b11001000#8, 0b00000000#8, 0b00000000#8]⟩

/-- Row `WIRE.AMPON`: `00000aaa cccccccc 00000010 00001101 aaa00000 00100100 00010101 00000000`; with `MSB_FIRST` the last
two bytes are `00000000 00010101`. -/
def rowAmpon (cfg : Config) (a : Axis) (c : Byte) : Packet :=
  match cfg.intWireOrder with
  | .lsbFirst =>
    ⟨0b00000#5 ++ a, c, 0b00000010#8, 0b00001101#8, [a ++ 0b00000#5, 0b00100100#8, 0b00010101#8, 0b00000000#8]⟩
  | .msbFirst =>
    ⟨0b00000#5 ++ a, c, 0b00000010#8, 0b00001101#8, [a ++ 0b00000#5, 0b00100100#8, 0b00000000#8, 0b00010101#8]⟩

/-- Row `WIRE.AMPOFF`: `00000aaa cccccccc 00000010 00001101 aaa00000 00100100 00000000 00000000`. -/
def rowAmpoff (a : Axis) (c : Byte) : Packet :=
  ⟨0b00000#5 ++ a, c, 0b00000010#8, 0b00001101#8, [a ++ 0b00000#5, 0b00100100#8, 0b00000000#8, 0b00000000#8]⟩

/-- Row `WIRE.HOME`: `00000aaa cccccccc 00000000 00010001`; with `PAYLOAD_WORD`
`00000aaa cccccccc 00000001 00010001 00000000 00000010`. -/
def rowHome (cfg : Config) (a : Axis) (c : Byte) : Packet :=
  match cfg.trajSubcmd with
  | .none => ⟨0b00000#5 ++ a, c, 0b00000000#8, 0b00010001#8, []⟩
  | .payloadWord => ⟨0b00000#5 ++ a, c, 0b00000001#8, 0b00010001#8, [0b00000000#8, 0b00000010#8]⟩

/-- Row `WIRE.STARTMOVE`: `00000aaa cccccccc 00000000 00010001`, the very word of `WIRE.HOME` (R308, C4); with
`PAYLOAD_WORD` `00000aaa cccccccc 00000001 00010001 00000000 00000001`. -/
def rowStartmove (cfg : Config) (a : Axis) (c : Byte) : Packet :=
  match cfg.trajSubcmd with
  | .none => ⟨0b00000#5 ++ a, c, 0b00000000#8, 0b00010001#8, []⟩
  | .payloadWord => ⟨0b00000#5 ++ a, c, 0b00000001#8, 0b00010001#8, [0b00000000#8, 0b00000001#8]⟩

/-- Row `WIRE.READPOS`: `00000aaa cccccccc 00000001 00001100 aaa00000 00010111`. -/
def rowReadpos (a : Axis) (c : Byte) : Packet :=
  ⟨0b00000#5 ++ a, c, 0b00000001#8, 0b00001100#8, [a ++ 0b00000#5, 0b00010111#8]⟩

/-- Row `WIRE.SETPOS`: `00000aaa cccccccc 00000011 00001101 aaa00000 11001010 vvvvvvvv vvvvvvvv vvvvvvvv vvvvvvvv`; the four
value groups are `pos[7:0], pos[15:8], pos[23:16], pos[31:24]` with `LSB_FIRST`, the opposite order with `MSB_FIRST`. -/
def rowSetpos (cfg : Config) (a : Axis) (c : Byte) (v : Word32) : Packet :=
  match cfg.intWireOrder with
  | .lsbFirst =>
    ⟨0b00000#5 ++ a, c, 0b00000011#8, 0b00001101#8, [a ++ 0b00000#5, 0b11001010#8,
      v.extractLsb' 0 8, v.extractLsb' 8 8, v.extractLsb' 16 8, v.extractLsb' 24 8]⟩
  | .msbFirst =>
    ⟨0b00000#5 ++ a, c, 0b00000011#8, 0b00001101#8, [a ++ 0b00000#5, 0b11001010#8,
      v.extractLsb' 24 8, v.extractLsb' 16 8, v.extractLsb' 8 8, v.extractLsb' 0 8]⟩

/-- The field `v` of a `WIRE.SETPOS` packet: its last four payload bytes put together in the machine's wire order. -/
def setposField (cfg : Config) (payload : List Byte) : Word32 :=
  match payload with
  | [_, _, b0, b1, b2, b3] =>
    match cfg.intWireOrder with
    | .lsbFirst => b3 ++ b2 ++ b1 ++ b0
    | .msbFirst => b0 ++ b1 ++ b2 ++ b3
  | _ => 0#32

/-! ### The decoder -/

/-- The row of a packet on the wire: the fields `a`, `c` and `v` are pulled out, and the row is the first whose fixed bits
all stand in the packet. With `TRAJ_SUBCMD = NONE` the rows `WIRE.HOME` and `WIRE.STARTMOVE` are the same word, which is
read as `WIRE.HOME` (log entry 15, DESIGN CHOICE). A packet of no other row is a `WIRE.GENERIC`. -/
def classifyPacket (cfg : Config) (p : Packet) : Instr :=
  let a : Axis := p.node.extractLsb' 0 3
  let c : Byte := p.checksum
  let v : Word32 := setposField cfg p.payload
  if p = rowPing then .wirePing
  else if p = rowPingResponse then .wirePingResponse
  else if p = rowClearfaults cfg then .wireClearfaults
  else if p = rowSettrajabs a c then .wireSettrajabs a c
  else if p = rowAmpon cfg a c then .wireAmpon a c
  else if p = rowAmpoff a c then .wireAmpoff a c
  else if p = rowHome cfg a c then .wireHome a c
  else if p = rowStartmove cfg a c then .wireStartmove a c
  else if p = rowReadpos a c then .wireReadpos a c
  else if p = rowSetpos cfg a c v then .wireSetpos a c v
  else .wireGeneric p

/-- The bytes of one packet on the wire (R59, R80): four header bytes, then the payload. -/
def decodeWire (cfg : Config) (bytes : List Byte) : Except DecodeError Instr :=
  match bytes with
  | node :: checksum :: dataSize :: opcode :: payload =>
    .ok (classifyPacket cfg ⟨node, checksum, dataSize, opcode, payload⟩)
  | _ => .error .shorterThanHeader

/-- A command that takes a `pkt`: the port carries at most `MAX_PAYLOAD` payload bytes (R98). -/
def withPkt (args : Args) (f : Packet → Instr) : Except DecodeError Instr :=
  if args.pkt.payload.length ≤ maxPayload then .ok (f args.pkt) else .error .payloadTooLong

/-- R33, R98: the byte sequences the result port can hold. A packet on it has a payload of at most `RX_DEPTH - 4` bytes, so
`RX_DEPTH` bytes in all, and no result is longer; with `RX_DEPTH` unbounded every sequence can be held. -/
def bytesFit (cfg : Config) (bytes : List Byte) : Bool :=
  match cfg.rxDepth with
  | none => true
  | some d => decide (bytes.length ≤ d)

/-- `DECODE`'s argument: "a byte sequence of any length the result port of a previous command can hold" (R98). -/
def withBytes (cfg : Config) (args : Args) (f : List Byte → Instr) : Except DecodeError Instr :=
  if bytesFit cfg args.bytes then .ok (f args.bytes) else .error .bytesTooLong

/-- The command codes of R100; every other code is a `RESERVED` command (R101). -/
def decodeCmd (cfg : Config) (code : Byte) (args : Args) : Except DecodeError Instr :=
  match code.toNat with
  | 0x01 => withPkt args .encode
  | 0x02 => withBytes cfg args .decode
  | 0x03 => withPkt args .chkvalid
  | 0x04 => withPkt args .sealPkt
  | 0x05 => .ok (.packvid args.axis args.varnum)
  | 0x06 => .ok (.unpackvid args.b2)
  | 0x07 => .ok (.i32tow args.pos)
  | 0x08 => .ok (.wtoi32 args.b4)
  | 0x10 => .ok .ping
  | 0x11 => .ok .clearfaults
  | 0x12 => .ok (.settrajabs args.axis)
  | 0x13 => .ok (.ampon args.axis)
  | 0x14 => .ok (.ampoff args.axis)
  | 0x15 => .ok (.home args.axis)
  | 0x16 => .ok (.startmove args.axis)
  | 0x17 => .ok (.readpos args.axis)
  | 0x18 => .ok (.setpos args.axis args.pos)
  | 0x20 => .ok (.connect args.auto args.port)
  | 0x21 => .ok .disconnect
  | 0x22 => .ok .isconnected
  | 0x23 => withPkt args fun p => .exchange p args.tmo
  | 0x24 => .ok (.getpos args.axis)
  | _ => .ok (.reserved code)

/-- The decoder: total, refusing by name what cannot stand on the port or on the wire. -/
def decode (cfg : Config) (w : PortWord) : Except DecodeError Instr :=
  match w with
  | .cmd code args => decodeCmd cfg code args
  | .wire bytes => decodeWire cfg bytes

/-! ### The encoder -/

/-- R80: the wire bytes of a packet. -/
def wireOf (p : Packet) : PortWord := .wire (p.node :: p.checksum :: p.dataSize :: p.opcode :: p.payload)

/-- The word of an instruction: the code of R100 with the argument fields R100 names for it (every other field zero), or
the wire bytes of its row. -/
def encode (cfg : Config) (i : Instr) : PortWord :=
  match i with
  | .encode p => .cmd 0x01#8 { Args.zero with pkt := p }
  | .decode bs => .cmd 0x02#8 { Args.zero with bytes := bs }
  | .chkvalid p => .cmd 0x03#8 { Args.zero with pkt := p }
  | .sealPkt p => .cmd 0x04#8 { Args.zero with pkt := p }
  | .packvid a n => .cmd 0x05#8 { Args.zero with axis := a, varnum := n }
  | .unpackvid w => .cmd 0x06#8 { Args.zero with b2 := w }
  | .i32tow v => .cmd 0x07#8 { Args.zero with pos := v }
  | .wtoi32 w => .cmd 0x08#8 { Args.zero with b4 := w }
  | .ping => .cmd 0x10#8 Args.zero
  | .clearfaults => .cmd 0x11#8 Args.zero
  | .settrajabs a => .cmd 0x12#8 { Args.zero with axis := a }
  | .ampon a => .cmd 0x13#8 { Args.zero with axis := a }
  | .ampoff a => .cmd 0x14#8 { Args.zero with axis := a }
  | .home a => .cmd 0x15#8 { Args.zero with axis := a }
  | .startmove a => .cmd 0x16#8 { Args.zero with axis := a }
  | .readpos a => .cmd 0x17#8 { Args.zero with axis := a }
  | .setpos a v => .cmd 0x18#8 { Args.zero with axis := a, pos := v }
  | .connect auto port => .cmd 0x20#8 { Args.zero with auto := auto, port := port }
  | .disconnect => .cmd 0x21#8 Args.zero
  | .isconnected => .cmd 0x22#8 Args.zero
  | .exchange p tmo => .cmd 0x23#8 { Args.zero with pkt := p, tmo := tmo }
  | .getpos a => .cmd 0x24#8 { Args.zero with axis := a }
  | .reserved code => .cmd code Args.zero
  | .wirePing => wireOf rowPing
  | .wireClearfaults => wireOf (rowClearfaults cfg)
  | .wireSettrajabs a c => wireOf (rowSettrajabs a c)
  | .wireAmpon a c => wireOf (rowAmpon cfg a c)
  | .wireAmpoff a c => wireOf (rowAmpoff a c)
  | .wireHome a c => wireOf (rowHome cfg a c)
  | .wireStartmove a c => wireOf (rowStartmove cfg a c)
  | .wireReadpos a c => wireOf (rowReadpos a c)
  | .wireSetpos a c v => wireOf (rowSetpos cfg a c v)
  | .wirePingResponse => wireOf rowPingResponse
  | .wireGeneric p => wireOf p

/-! ### The host's numbering of the table's words -/

/-- The `n` bytes of a number of `8 * n` bits, its most significant byte first. -/
def bytesMsbFirst : Nat → Nat → List Byte
  | 0, _ => []
  | n + 1, w => BitVec.ofNat 8 (w / 256 ^ n) :: bytesMsbFirst n w

/-- The word of `nbits` bits whose bits are `w`, numbered as opcode_table.json numbers them. A HOSTCMD row is the 8 bits of
`CMD`; its argument fields have no bits and are zero. A wire row is one number whose leftmost group is wire byte 0, so wire
byte 0 is its most significant byte (the table gives `WIRE.HOME` the field `a` at bits 26 to 24; log entry 19, DEDUCED). -/
def tableWord (nbits w : Nat) : PortWord :=
  if nbits ≤ 8 then .cmd (BitVec.ofNat 8 w) Args.zero else .wire (bytesMsbFirst (nbits / 8) w)

/-- The instruction the decoder reads from a table word, the parameters at their defaults. -/
def decodeTableWord (nbits w : Nat) : Option Instr :=
  match decode Config.default (tableWord nbits w) with
  | .ok i => some i
  | .error _ => none

end Sys2Proof
end

