-- ==== Sys2Proof/Machine/Lines.lean ====
section
/-! DEFINITION. The transport session's pseudocode, line by line (42_transport.md R182 to R190): "a step of the block is one
line of pseudocode" (log entry 7, DEDUCED). Each function performs one line and names the line that is next. -/

namespace Sys2Proof.Machine

/-- R183, R184, R185, R190: where the packet an exchange returns goes. -/
def State.returnPacket (s : State) (k : XchgCaller) (p : Packet) : State :=
  match k with
  | .exchange => s.complete (.pkt p)
  | .getpos a => s.goto (.getpos a (.valid p))
  | .probe c => s.goto (.probe c (.compare p))
  | .clear => s.goto (.connect [] .idle)

/-- One line of `xchg` (R183). The line `wait` is left by a tick only (`State.tickEvent`). -/
def xchgLine (k : XchgCaller) (l : XchgLine) (s : State) : State :=
  match l with
  | .test p tmo => if s.st = .closed then s.goto (.xchg k (.passDiag p)) else s.goto (.xchg k (.write p tmo))
  | .passDiag p => (s.note .passthru).goto (.xchg k (.passReturn p))
  | .passReturn p => s.returnPacket k p
  | .write p tmo => (s.txWrite (bytesOf p)).leaveOpening.goto (.xchg k (.latch tmo))
  | .latch tmo => (s.latchTimer tmo).goto (.xchg k .avail)
  | .avail => s.goto (.xchg k (.check s.rxAvail))
  | .check n => if 4 ≤ n ∨ s.timedOut = true then s.goto (.xchg k .drain) else s.goto (.xchg k .wait)
  | .wait => s
  | .count => s.countTick.goto (.xchg k .avail)
  | .drain => s.rxClear.goto (.xchg k (.ready s.rxq))
  | .ready r => s.setReady.goto (.xchg k (.short r))
  | .short r => if r.length < 4 then (s.note .timeout).goto (.xchg k (.ret r)) else s.goto (.xchg k (.ret r))
  | .ret r => s.returnPacket k (packetOf r)

/-- One line of `probe` (R184) after its exchange. -/
def probeLine (c : ProbeCaller) (l : ProbeLine) (s : State) : State :=
  match l with
  | .compare r => s.goto (.probe c (.note (decide (r = sigPacket))))
  | .note ok => if ok then s.goto (.probe c (.ret ok)) else (s.note .probefail).goto (.probe c (.ret ok))
  | .ret ok =>
    match c with
    | .isconnected => s.complete (.bool ok)
    | .connect rest => if ok then s.goto (.connect [] .clear) else s.goto (.connect rest .close)

/-- R184: the exchange a probe starts with. -/
def probeStart (c : ProbeCaller) : Job := .xchg (.probe c) (.test pingPacket tProbeMs)

/-- One line of `GETPOS` (R190) after its exchange. -/
def getposLine (a : Axis) (l : GetposLine) (s : State) : State :=
  match l with
  | .valid r => if checksumValid r then s.goto (.getpos a (.length r)) else s.goto (.getpos a .chkbad)
  | .chkbad => (s.note .chkbad).goto (.getpos a .ret)
  | .length r =>
    match r.payload with
    | [b0, b1, b2, b3] => s.goto (.getpos a (.store ⟨b0, b1, b2, b3⟩))
    | _ => s.goto (.getpos a .badlen)
  | .badlen => (s.note .badlen).goto (.getpos a .ret)
  | .store w => (s.setLastpos a (int32Of s.cfg.intWireOrder w)).goto (.getpos a .ret)
  | .ret => s.complete (.int32 (s.lastposAt a))

/-- R190: the exchange a `GETPOS` starts with. -/
def getposStart (a : Axis) : Job := .xchg (.getpos a) (.test (readposPacket a) tDefaultMs)

/-- One line of `CONNECT` (R185) and `open_port` (R182) outside the exchanges; `rest` is the ports still to try. -/
def connectLine (rest : List Nat) (l : ConnectLine) (s : State) : State :=
  match l with
  | .test auto port =>
    if s.st = .idle then s.goto (.connect [] (.ret true)) else s.goto (.connect [] (.mode auto port))
  | .mode auto port =>
    if auto then s.goto (.connect (List.range s.cfg.nPorts) .scan) else s.goto (.connect [] (.ask port))
  | .scan =>
    match rest with
    | [] => s.goto (.connect [] (.ret false))
    | p :: ps => s.goto (.connect ps (.ask p))
  | .ask p =>
    if s.openOk p then (s.askOpen p).goto (.connect rest (.opening p))
    else (s.askOpen p).goto (.connect rest .openfail)
  | .openfail => (s.note .openfail).goto (.connect rest (.one false))
  | .opening p => (s.openPort p).goto (probeStart (.connect rest))
  | .close => s.closePort.goto (.connect rest (.one false))
  | .clear => s.goto (.xchg .clear (.test (clearfaultsPacket s.cfg) tDefaultMs))
  | .idle => (s.setSt .idle).goto (.connect [] (.one true))
  | .one ok => if ok then s.goto (.connect [] (.ret true)) else s.goto (.connect rest .scan)
  | .ret ok => s.complete (.bool ok)

/-- The block's next line: nothing when no command is in flight. -/
def State.blockLine (s : State) : State :=
  match s.job with
  | none => s
  | some (.xchg k l) => xchgLine k l s
  | some (.probe c l) => probeLine c l s
  | some (.getpos a l) => getposLine a l s
  | some (.connect rest l) => connectLine rest l s

end Sys2Proof.Machine
end

