-- ==== Sys2Proof/Machine/Block.lean ====
section
/-! DEFINITION. The block and the agents around it (00_scope.md R5): one event or one line at a time (`State.cycle`), and
the run of a command from its start to its end (`State.launch`). -/

namespace Sys2Proof.Machine

/-- R29: a tick ends a `wait_tick()`; at any other moment the block does not count it. -/
def State.tickEvent (s : State) : State :=
  match s.job with
  | some (.xchg k .wait) => s.goto (.xchg k .count)
  | _ => s

/-- The block's turn when nothing outside comes first: its next line, or, while it waits, the next tick, which always
comes (R29, the fairness assumption). -/
def State.turn (s : State) : State :=
  match s.job with
  | some (.xchg _ .wait) => s.tickEvent
  | _ => s.blockLine

/-- The bytes a wire word puts on the receive stream: a packet that is not a request of the block's own catalog comes from
the far end of the line (log entry 5). -/
def receivedBytes (cfg : Config) (w : PortWord) : List Byte :=
  match w with
  | .cmd _ _ => []
  | .wire bytes =>
    match decodeWire cfg bytes with
    | .ok .wirePingResponse => bytes
    | .ok (.wireGeneric _) => bytes
    | _ => []

/-- One event from outside, or the block's turn. A `start` pulse while a command is in flight is ignored (R99). -/
def State.cycle (s : State) : State :=
  match s.inputs with
  | [] => s.turn
  | .rx b :: ins => { s with inputs := ins }.arrive b
  | .tick :: ins => { s with inputs := ins }.tickEvent
  | .go :: ins => { s with inputs := ins }.blockLine
  | .await :: ins => if s.turn.busy then s.turn else { s.turn with inputs := ins }
  | .look :: ins => { s with inputs := ins }
  | .reset :: ins => { s with inputs := ins }.doReset
  | .word w :: ins => { s with inputs := ins }.arriveAll (receivedBytes s.cfg w)

/-- The command in flight runs on until it ends or the observer looks; `n` bounds the number of cycles. -/
def State.runFor : Nat → State → State
  | 0, s => s
  | n + 1, s =>
    if s.busy then
      match s.inputs with
      | .look :: ins => { s with inputs := ins }
      | _ => State.runFor n s.cycle
    else s

/-- The ports a command in flight has still to try. -/
def Job.portsLeft (j : Job) : Nat :=
  match j with
  | .xchg (.probe (.connect rest)) _ => rest.length
  | .xchg _ _ => 0
  | .probe (.connect rest) _ => rest.length
  | .probe .isconnected _ => 0
  | .getpos _ _ => 0
  | .connect rest _ => rest.length

/-- A number of cycles within which every command ends (R191): the inputs that stand ready, one exchange of up to 656
ticks, the `clearFaults` exchange of 150, and 20 ticks for each port to try, with the lines around them (log entry 18, DEDUCED). -/
def State.bound (s : State) : Nat :=
  s.inputs.length + 4000 + 100 * (s.cfg.nPorts + (match s.job with | none => 0 | some j => j.portsLeft))

/-- A command in flight runs on to its end or to the observer's next look. -/
def State.resume (s : State) : State := s.runFor s.bound

/-- A command starts at its first line and runs. -/
def State.launch (s : State) (j : Job) : State := (s.goto j).resume

end Sys2Proof.Machine
end

