-- ==== Sys2Proof/Machine/Transport.lean ====
section
/-! DEFINITION. The meanings of the transport session's five commands (42_transport.md R185 to R190): the first line of
each, and the run of its pseudocode (Lines.lean) among the inputs of the other agents (Block.lean). -/

namespace Sys2Proof.Machine

/-- `CONNECT` (R185): `connectLine` from its first line. -/
def execConnect (auto : Bool) (port : Nat) (s : State) : Host.Outcome State Fault Refusal :=
  s.issue fun s => s.launch (.connect [] (.test auto port))

/-- `DISCONNECT` (R186): `if ST != Closed: close_port()`; true. -/
def execDisconnect (s : State) : Host.Outcome State Fault Refusal :=
  s.issue fun s => (if s.st = .closed then s else s.closePort).complete (.bool true)

/-- `ISCONNECTED` (R187): `return probe()`. -/
def execIsconnected (s : State) : Host.Outcome State Fault Refusal :=
  s.issue fun s => s.launch (probeStart .isconnected)

/-- `EXCHANGE` (R188): `return xchg(pkt, tmo)`. -/
def execExchange (pkt : Packet) (tmo : BitVec 16) (s : State) : Host.Outcome State Fault Refusal :=
  s.issue fun s => s.launch (.xchg .exchange (.test pkt tmo))

/-- `GETPOS` (R190): `xchg(READPOS(axis), T_DEFAULT_MS)`, then the lines of `getposLine`. -/
def execGetpos (axis : Axis) (s : State) : Host.Outcome State Fault Refusal :=
  s.issue fun s => s.launch (getposStart axis)

end Sys2Proof.Machine
end

