-- ==== Sys2Proof/Machine/Wire.lean ====
section
/-! DEFINITION. The meanings of the wire rows of opcode_table.json. The spec gives a packet on the wire no effect apart from
its direction (20_memory.md R51): a request goes from the block to the peer, and only an exchange sends it
(42_transport.md R183, R192); a response comes from the peer into `RXQ` (R52). So a request row is the exchange of that
packet as it stands, with the timeout 60_exceptions.md R264 gives it, and the ping response and the general format are a
packet's arrival (log entries 4 and 5, DESIGN CHOICE). -/

namespace Sys2Proof.Machine

/-- R183, R236: the exchange of a finished packet. -/
def State.request (s : State) (p : Packet) (tmo : BitVec 16) : Host.Outcome State Fault Refusal :=
  s.issue fun s => s.launch (.xchg .exchange (.test p tmo))

/-- R52: the arrival of a packet's bytes, in a command or between commands. -/
def State.receive (s : State) (p : Packet) : Host.Outcome State Fault Refusal := .next (s.arriveAll (bytesOf p))

/-- `WIRE.PING` (R150): "2000ms for the probe ping". -/
def execWirePing (s : State) : Host.Outcome State Fault Refusal := s.request rowPing tProbeMs

/-- `WIRE.CLEARFAULTS` (R151, R236). -/
def execWireClearfaults (s : State) : Host.Outcome State Fault Refusal := s.request (rowClearfaults s.cfg) tDefaultMs

/-- `WIRE.SETTRAJABS` (R152). -/
def execWireSettrajabs (a : Axis) (c : Byte) (s : State) : Host.Outcome State Fault Refusal :=
  s.request (rowSettrajabs a c) tDefaultMs

/-- `WIRE.AMPON` (R153). -/
def execWireAmpon (a : Axis) (c : Byte) (s : State) : Host.Outcome State Fault Refusal :=
  s.request (rowAmpon s.cfg a c) tDefaultMs

/-- `WIRE.AMPOFF` (R154). -/
def execWireAmpoff (a : Axis) (c : Byte) (s : State) : Host.Outcome State Fault Refusal :=
  s.request (rowAmpoff a c) tDefaultMs

/-- `WIRE.HOME` (R155). -/
def execWireHome (a : Axis) (c : Byte) (s : State) : Host.Outcome State Fault Refusal :=
  s.request (rowHome s.cfg a c) tDefaultMs

/-- `WIRE.STARTMOVE` (R156). -/
def execWireStartmove (a : Axis) (c : Byte) (s : State) : Host.Outcome State Fault Refusal :=
  s.request (rowStartmove s.cfg a c) tDefaultMs

/-- `WIRE.READPOS` (R157). -/
def execWireReadpos (a : Axis) (c : Byte) (s : State) : Host.Outcome State Fault Refusal :=
  s.request (rowReadpos a c) tDefaultMs

/-- `WIRE.SETPOS` (R158). -/
def execWireSetpos (a : Axis) (c : Byte) (v : Word32) (s : State) : Host.Outcome State Fault Refusal :=
  s.request (rowSetpos s.cfg a c v) tDefaultMs

/-- `WIRE.PING_RESPONSE` (R91). -/
def execWirePingResponse (s : State) : Host.Outcome State Fault Refusal := s.receive rowPingResponse

/-- `WIRE.GENERIC` (R80). -/
def execWireGeneric (pkt : Packet) (s : State) : Host.Outcome State Fault Refusal := s.receive pkt

end Sys2Proof.Machine
end

