-- ==== Sys2Proof/Machine/Dispatch.lean ====
section
/-! DEFINITION. One arm per constructor of `Instr`: the meaning of every instruction. -/

namespace Sys2Proof.Machine

def exec (i : Instr) (s : State) : Host.Outcome State Fault Refusal :=
  match i with
  | .encode pkt => Sys2Proof.Machine.execEncode pkt s
  | .decode bytes => Sys2Proof.Machine.execDecode bytes s
  | .chkvalid pkt => Sys2Proof.Machine.execChkvalid pkt s
  | .sealPkt pkt => Sys2Proof.Machine.execSealPkt pkt s
  | .packvid axis varnum => Sys2Proof.Machine.execPackvid axis varnum s
  | .unpackvid b2 => Sys2Proof.Machine.execUnpackvid b2 s
  | .i32tow pos => Sys2Proof.Machine.execI32tow pos s
  | .wtoi32 b4 => Sys2Proof.Machine.execWtoi32 b4 s
  | .ping => Sys2Proof.Machine.execPing s
  | .clearfaults => Sys2Proof.Machine.execClearfaults s
  | .settrajabs axis => Sys2Proof.Machine.execSettrajabs axis s
  | .ampon axis => Sys2Proof.Machine.execAmpon axis s
  | .ampoff axis => Sys2Proof.Machine.execAmpoff axis s
  | .home axis => Sys2Proof.Machine.execHome axis s
  | .startmove axis => Sys2Proof.Machine.execStartmove axis s
  | .readpos axis => Sys2Proof.Machine.execReadpos axis s
  | .setpos axis pos => Sys2Proof.Machine.execSetpos axis pos s
  | .connect auto port => Sys2Proof.Machine.execConnect auto port s
  | .disconnect => Sys2Proof.Machine.execDisconnect s
  | .isconnected => Sys2Proof.Machine.execIsconnected s
  | .exchange pkt tmo => Sys2Proof.Machine.execExchange pkt tmo s
  | .getpos axis => Sys2Proof.Machine.execGetpos axis s
  | .reserved code => Sys2Proof.Machine.execReserved code s
  | .wirePing => Sys2Proof.Machine.execWirePing s
  | .wireClearfaults => Sys2Proof.Machine.execWireClearfaults s
  | .wireSettrajabs a c => Sys2Proof.Machine.execWireSettrajabs a c s
  | .wireAmpon a c => Sys2Proof.Machine.execWireAmpon a c s
  | .wireAmpoff a c => Sys2Proof.Machine.execWireAmpoff a c s
  | .wireHome a c => Sys2Proof.Machine.execWireHome a c s
  | .wireStartmove a c => Sys2Proof.Machine.execWireStartmove a c s
  | .wireReadpos a c => Sys2Proof.Machine.execWireReadpos a c s
  | .wireSetpos a c v => Sys2Proof.Machine.execWireSetpos a c v s
  | .wirePingResponse => Sys2Proof.Machine.execWirePingResponse s
  | .wireGeneric pkt => Sys2Proof.Machine.execWireGeneric pkt s

end Sys2Proof.Machine
end

