-- ==== Sys2Proof/Machine/Step.lean ====
section
/-! DEFINITION. One step of the machine. There is no program counter (10_state.md R24): the order in which the host presents
commands is the program order, and what is presented stands at the head of `inputs`. -/

namespace Sys2Proof.Machine

/-- R99: the `done` strobe is down again when the next step begins. -/
def State.lowerDone (s : State) : State := { s with done := false }

/-- An event of an agent outside the block while no command is in flight (R5): a byte arrives (R52), a tick passes
unnoticed (R29), or reset is asserted (R290). A word is not such an event, `step` runs it. -/
def State.idleEvent (s : State) (e : Input) : State :=
  match e with
  | .rx b => s.arrive b
  | .reset => s.doReset
  | .tick => s
  | .go => s
  | .await => s
  | .look => s
  | .word _ => s

/-- R5: with a command in flight the block runs on; otherwise the next thing that happens outside is taken, and a word that
is presented is decoded and its instruction run (log entries 8 and 10,
DESIGN CHOICE). A block with nothing to do stays as it is (R268). -/
def step (s : State) : Host.Outcome State Fault Refusal :=
  if s.busy then .next s.lowerDone.resume
  else
    match s.inputs with
    | [] => .next s.lowerDone
    | .word w :: ins =>
      match decode s.cfg w with
      | .ok i => exec i { s.lowerDone with inputs := ins }
      | .error e => .refused (.badWord e)
    | e :: ins => .next ({ s.lowerDone with inputs := ins }.idleEvent e)

/-- The state in which a word of opcode_table.json is the next thing presented to a block with no command in flight, so
that the very next step runs its instruction (log entry 10). -/
def State.withFetchWord (s : State) (nbits w : Nat) : State :=
  { s with job := none, inputs := .word (tableWord nbits w) :: s.inputs }

end Sys2Proof.Machine
end

