-- ==== Sys2Proof/Machine/Facade.lean ====
section
/-! DEFINITION. The facade's sequences (43_facade_sequences.md R230 to R236): host-side pseudo-instructions, given meaning
only through their expansion into block commands, each awaited before the next is issued. What a sequence does when it is begun
while a command is in flight, and when reset ends one of its commands, the spec leaves open (log entry 22, DESIGN CHOICE). -/

namespace Sys2Proof.Machine

/-- R230: the host awaits the command in flight; a look of the observer does not end the wait (log entry
22, DESIGN CHOICE). -/
def State.awaitFor : Nat → State → State
  | 0, s => s
  | n + 1, s => if s.busy then State.awaitFor n s.cycle else s

/-- R230: the state in which the command in flight has ended. -/
def State.awaitEnd (s : State) : State := s.awaitFor s.bound

/-- R230: one command, awaited, then the rest of the sequence. -/
def andThen (o : Host.Outcome State Fault Refusal) (k : State → Host.Outcome State Fault Refusal) :
    Host.Outcome State Fault Refusal :=
  match o with
  | .next t => k t.awaitEnd
  | .fault f => .fault f
  | .refused r => .refused r

/-- R230: `EXCHANGE p, 15000 -> (discarded)` for the packet `p` the command before it returned. Begun
while a command is in flight, which R99 has no host do, the start of `made` is lost, that command is awaited, and `p` is its
packet if its result is one; with another result nothing is exchanged (log entry 22, DESIGN CHOICE). -/
def sendMade (made : Host.Outcome State Fault Refusal) : Host.Outcome State Fault Refusal :=
  andThen made fun t =>
    match t.result with
    | some ⟨.ok, some (.pkt p)⟩ => andThen (execExchange p tDefaultMs t) .next
    | _ => .next t

/-- `INITAXIS axis` (R232). -/
def initAxis (axis : Axis) (s : State) : Host.Outcome State Fault Refusal :=
  andThen (sendMade (execSettrajabs axis s)) fun s =>
    andThen (sendMade (execAmpon axis s)) fun s => sendMade (execHome axis s)

/-- `DISABLEAXIS axis` (R233). -/
def disableAxis (axis : Axis) (s : State) : Host.Outcome State Fault Refusal := sendMade (execAmpoff axis s)

/-- `MOVEAXIS axis, pos` (R234). -/
def moveAxis (axis : Axis) (pos : Word32) (s : State) : Host.Outcome State Fault Refusal :=
  andThen (sendMade (execSettrajabs axis s)) fun s =>
    andThen (sendMade (execSetpos axis pos s)) fun s => sendMade (execStartmove axis s)

/-- The verb `clear-faults` (R236). -/
def clearFaults (s : State) : Host.Outcome State Fault Refusal := sendMade (execClearfaults s)

/-- `connect(portName?)` (R231): `CONNECT 0, port` when a port is given, `CONNECT 1, 0` when none is. -/
def facadeConnect (port : Option Nat) (s : State) : Host.Outcome State Fault Refusal :=
  match port with
  | some p => execConnect false p s
  | none => execConnect true 0 s

/-- `disconnect()` (R231). -/
def facadeDisconnect (s : State) : Host.Outcome State Fault Refusal := execDisconnect s

/-- `isConnected()` (R231). -/
def facadeIsConnected (s : State) : Host.Outcome State Fault Refusal := execIsconnected s

/-- `getPosition(axis)` (R231). -/
def facadeGetPosition (axis : Axis) (s : State) : Host.Outcome State Fault Refusal := execGetpos axis s

end Sys2Proof.Machine
end

