-- ==== Sys2Proof/WellFormed.lean ====
section
/-! DEFINITION. Which terms of `Instr` the port or the wire can carry: the argument bounds of 30_encoding.md R98, the
reserved codes of R101, and the wire rows that have a word of their own. -/

namespace Sys2Proof

/-- The codes of R100. -/
def commandCodes : List Byte :=
  [0x01#8, 0x02#8, 0x03#8, 0x04#8, 0x05#8, 0x06#8, 0x07#8, 0x08#8] ++
  [0x10#8, 0x11#8, 0x12#8, 0x13#8, 0x14#8, 0x15#8, 0x16#8, 0x17#8, 0x18#8] ++
  [0x20#8, 0x21#8, 0x22#8, 0x23#8, 0x24#8]

/-- R98: "a packet value whose payload has 0 to `MAX_PAYLOAD` bytes". -/
def Packet.fitsPort (p : Packet) : Bool := decide (p.payload.length ≤ maxPayload)

/-- The check on an instruction. A packet or a byte sequence fits the port (R33, R98). A `RESERVED` code is none of R100's; `WIRE.STARTMOVE` has a word of its own only with
`TRAJ_SUBCMD = PAYLOAD_WORD` (R308); a `WIRE.GENERIC` packet is of no other wire row. -/
def WellFormed (cfg : Config) (i : Instr) : Bool :=
  match i with
  | .encode p => p.fitsPort
  | .decode bs => bytesFit cfg bs
  | .chkvalid p => p.fitsPort
  | .sealPkt p => p.fitsPort
  | .packvid _ _ => true
  | .unpackvid _ => true
  | .i32tow _ => true
  | .wtoi32 _ => true
  | .ping => true
  | .clearfaults => true
  | .settrajabs _ => true
  | .ampon _ => true
  | .ampoff _ => true
  | .home _ => true
  | .startmove _ => true
  | .readpos _ => true
  | .setpos _ _ => true
  | .connect _ _ => true
  | .disconnect => true
  | .isconnected => true
  | .exchange p _ => p.fitsPort
  | .getpos _ => true
  | .reserved code => !commandCodes.contains code
  | .wirePing => true
  | .wireClearfaults => true
  | .wireSettrajabs _ _ => true
  | .wireAmpon _ _ => true
  | .wireAmpoff _ _ => true
  | .wireHome _ _ => true
  | .wireStartmove _ _ => decide (cfg.trajSubcmd = .payloadWord)
  | .wireReadpos _ _ => true
  | .wireSetpos _ _ _ => true
  | .wirePingResponse => true
  | .wireGeneric p => decide (classifyPacket cfg p = .wireGeneric p)

end Sys2Proof
end

