-- ==== Sys2Proof/Safety.lean ====
section
/-! DEFINITION. What a safe run is, in the terms claims use: the invariant of every reachable state (10_state.md R40, with
R22, R25, R26, R27, R30, R33), what an observer sees (00_scope.md R6), and what the rules of 42_transport.md say of a command
that runs while nothing arrives on the line. -/

namespace Sys2Proof

open Sys2Proof.Machine

/-! ### The invariant -/

/-- R181: the session states in which a line of `xchg` can stand. -/
def xchgStates (k : XchgCaller) (l : XchgLine) : List SessionState :=
  match k, l with
  | .probe (.connect _), .test _ _ => [.opening]
  | .probe (.connect _), .write _ _ => [.opening]
  | .probe (.connect _), .passDiag _ => []
  | .probe (.connect _), .passReturn _ => []
  | .probe (.connect _), _ => [.probing]
  | .clear, .passDiag _ => []
  | .clear, .passReturn _ => []
  | .clear, _ => [.probing]
  | _, .test _ _ => [.closed, .idle]
  | _, .passDiag _ => [.closed]
  | _, .passReturn _ => [.closed]
  | _, _ => [.idle]

/-- R181: the session states in which a line of `CONNECT` can stand. -/
def connectStates (l : ConnectLine) : List SessionState :=
  match l with
  | .test _ _ => [.closed, .idle]
  | .mode _ _ => [.closed]
  | .scan => [.closed]
  | .ask _ => [.closed]
  | .openfail => [.closed]
  | .opening _ => [.closed]
  | .close => [.probing]
  | .clear => [.probing]
  | .idle => [.probing]
  | .one ok => if ok then [.idle] else [.closed]
  | .ret ok => if ok then [.idle] else [.closed]

/-- R22, R181: the session states that go with the command in flight, or with none. -/
def jobStates (j : Option Job) : List SessionState :=
  match j with
  | none => [.closed, .idle]
  | some (.xchg k l) => xchgStates k l
  | some (.probe .isconnected _) => [.closed, .idle]
  | some (.probe (.connect _) _) => [.probing]
  | some (.getpos _ _) => [.closed, .idle]
  | some (.connect _ l) => connectStates l

/-- R26: the lines between the write and the drain of an exchange, where `PH = Poll`. -/
def jobPolls (j : Option Job) : Bool :=
  match j with
  | some (.xchg _ .avail) => true
  | some (.xchg _ (.check _)) => true
  | some (.xchg _ .wait) => true
  | some (.xchg _ .count) => true
  | some (.xchg _ .drain) => true
  | some (.xchg _ (.ready _)) => true
  | _ => false

/-- The lines inside one turn of the poll loop, after the check found `EL < TMO`. -/
def jobCounts (j : Option Job) : Bool :=
  match j with
  | some (.xchg _ .wait) => true
  | some (.xchg _ .count) => true
  | _ => false

/-- R182: the port a `CONNECT` is about to open. -/
def jobOpens (j : Option Job) (n : Nat) : Prop :=
  match j with
  | some (.connect _ (.opening p)) => p < n
  | _ => True

/-- R33, R98: the packets among a command's latched arguments are within the port's width, and the bytes an exchange has
drained within the queue's. -/
def jobFits (cfg : Config) (j : Option Job) : Bool :=
  match j with
  | some (.xchg _ (.test p _)) => p.fitsPort
  | some (.xchg _ (.passDiag p)) => p.fitsPort
  | some (.xchg _ (.passReturn p)) => p.fitsPort
  | some (.xchg _ (.write p _)) => p.fitsPort
  | some (.xchg _ (.ready r)) => bytesFit cfg r
  | some (.xchg _ (.short r)) => bytesFit cfg r
  | some (.xchg _ (.ret r)) => bytesFit cfg r
  | _ => true

/-- R33: the width of the result port: a packet with a payload of at most `RX_DEPTH - 4` bytes (unbounded if `RX_DEPTH` is),
the 4 + 510 bytes of an encoded packet, and nothing wider. -/
def resultFits (cfg : Config) (r : Option Result) : Bool :=
  match r with
  | some ⟨_, some (.pkt p)⟩ => bytesFit cfg (bytesOf p)
  | some ⟨_, some (.bytes bs)⟩ => decide (bs.length ≤ 514)
  | _ => true

/-- R40: the invariant of every reachable state. -/
structure Coherent (s : State) : Prop where
  /-- R7: the parameters are within their bounds. -/
  cfg_wf : s.cfg.wf = true
  /-- R22, R181: `ST` goes with the command in flight; with none it is `Closed` or `Idle` (R40 c). -/
  st_ok : s.st ∈ jobStates s.job
  /-- R26, R40 (b), (c): `PH = Poll` exactly between the write and the drain of an exchange. -/
  ph_ok : s.ph = .poll ↔ jobPolls s.job = true
  /-- R30, R40 (a): `RXQ` is empty in `Closed`. -/
  rx_closed : s.st = .closed → s.rxq = []
  /-- R20, R54: `RXQ` holds at most `RX_DEPTH` bytes. -/
  rx_depth : ∀ d, s.cfg.rxDepth = some d → s.rxq.length ≤ d
  /-- R27, R40 (d): `EL` is a multiple of 100. -/
  el_step : s.el.toNat % 100 = 0
  /-- R27: the largest reachable value of `EL` is 65600. -/
  el_max : s.el.toNat ≤ 65600
  /-- R40 (d): while `PH = Poll`, `EL < TMO + 100`. -/
  el_poll : s.ph = .poll → s.el.toNat < s.tmo.toNat + 100
  /-- While the exchange waits, `EL < TMO`. -/
  el_wait : jobCounts s.job = true → s.el.toNat < s.tmo.toNat
  /-- R25: `PORT` is a port index. -/
  port_ok : s.port < s.cfg.nPorts
  /-- R182: a port about to be opened is a port index. -/
  opens_ok : jobOpens s.job s.cfg.nPorts
  /-- R33, R99: while a command is in flight the result port is empty and `done` is low. -/
  busy_result : s.job ≠ none → s.result = none ∧ s.done = false
  /-- R33: the argument registers hold what fits them. -/
  args_fit : jobFits s.cfg s.job = true
  /-- R33: the result port holds what fits it. -/
  result_fits : resultFits s.cfg s.result = true

/-! ### What an observer sees -/

/-- R6: the result of the command, `TXLOG`, and the registers `ST`, `CONN`, `PORT`, `LASTPOS`, `DIAG`. -/
structure Observation where
  result : Option Result
  txlog : List (Nat × Byte)
  st : SessionState
  conn : ConnStatus
  port : Nat
  lastpos : Vector Word32 8
  diag : BitVec 8
  deriving DecidableEq, Repr

/-- R6. -/
def observe (s : State) : Observation := ⟨s.result, s.txlog, s.st, s.conn, s.port, s.lastpos, s.diag⟩

/-! ### Commands on a quiet line -/

/-- No command is in flight and nothing stands ready outside: the next command runs while ticks come and no byte does. -/
def Quiet (s : State) : Prop := s.job = none ∧ s.inputs = []

/-- R57: the entries a write adds to `TXLOG`. -/
def sent (port : Nat) (bytes : List Byte) : List (Nat × Byte) := bytes.map fun b => (port, b)

/-- R183: `EL` when the poll loop ends by its timeout, the first multiple of 100 that is `TMO` or more. -/
def lastCheck (tmo : BitVec 16) : BitVec 17 := BitVec.ofNat 17 (100 * ((tmo.toNat + 99) / 100))

/-- R183 on a quiet line, in `Closed` or `Idle`: the registers the exchange of `p` leaves. In `Closed` only
`DIAG.PASSTHRU` changes. Otherwise the request is written; four bytes that wait in `RXQ` are taken at the first check, fewer
are taken when the timeout has passed, with `DIAG.TIMEOUT`. -/
def afterXchg (s : State) (p : Packet) (tmo : BitVec 16) : State :=
  if s.st = .closed then { s with diag := s.diag ||| 0x01#8 }
  else if 4 ≤ s.rxq.length then
    { s with
      txlog := s.txlog ++ sent s.port (p.node :: p.checksum :: p.dataSize :: p.opcode :: p.payload),
      tmo := tmo, el := 0#17, ph := .ready, rxq := [] }
  else
    { s with
      txlog := s.txlog ++ sent s.port (p.node :: p.checksum :: p.dataSize :: p.opcode :: p.payload),
      tmo := tmo, el := lastCheck tmo, ph := .ready, rxq := [], diag := s.diag ||| 0x02#8 }

/-- R183 on a quiet line: the packet the exchange of `p` returns. -/
def answerTo (s : State) (p : Packet) : Packet :=
  if s.st = .closed then p
  else
    match s.rxq with
    | node :: checksum :: dataSize :: opcode :: payload => ⟨node, checksum, dataSize, opcode, payload⟩
    | _ => ⟨0#8, 0#8, 0#8, 0#8, []⟩

/-- R99: the state in which a command has ended with status `OK` and a value. -/
def endedWith (s : State) (v : Value) : State := { s with result := some ⟨.ok, some v⟩, done := true }

/-- R82: the packet of these fields whose checksum byte makes the exclusive-or of all its bytes `0x5A`. -/
def sealedPacket (node dataSize opcode : Byte) (payload : List Byte) : Packet :=
  ⟨node, List.foldl (· ^^^ ·) 0x5A#8 (node :: dataSize :: opcode :: payload), dataSize, opcode, payload⟩

/-- R150: the ping request `00 5D 00 07`. -/
def pingRequest : Packet := ⟨0x00#8, 0x5D#8, 0x00#8, 0x07#8, []⟩

/-- R151: the `clearFaults` request, by the parameter `CLEARFAULTS_FILL`. -/
def clearRequest (cfg : Config) : Packet :=
  match cfg.clearfaultsFill with
  | .allFF => ⟨0x00#8, 0xF5#8, 0x03#8, 0x0D#8, [0x00#8, 0xA1#8, 0xFF#8, 0xFF#8, 0xFF#8, 0xFF#8]⟩
  | .sourceBug => ⟨0x00#8, 0x0A#8, 0x03#8, 0x0D#8, [0x00#8, 0xA1#8, 0xFF#8, 0x00#8, 0x00#8, 0x00#8]⟩

/-- R152 to R158: a request on an axis: node byte `axis`, then the identifier word of a variable below 256, whose high byte
is the axis in its top three bits, and the value bytes. -/
def axisRequest (a : Axis) (dataSize opcode var : Byte) (value : List Byte) : Packet :=
  sealedPacket (BitVec.ofNat 8 a.toNat) dataSize opcode (BitVec.ofNat 8 (32 * a.toNat) :: var :: value)

/-- R157: the read-position request of an axis. -/
def readposRequest (a : Axis) : Packet := axisRequest a 0x01#8 0x0C#8 0x17#8 []

/-- R80: the wire bytes of a packet. -/
def wireBytes (p : Packet) : List Byte := p.node :: p.checksum :: p.dataSize :: p.opcode :: p.payload

/-- R92: the 32-bit pattern of four wire bytes, as a number. -/
def patternOf (o : WireOrder) (b0 b1 b2 b3 : Byte) : Nat :=
  match o with
  | .lsbFirst => b0.toNat + 256 * b1.toNat + 65536 * b2.toNat + 16777216 * b3.toNat
  | .msbFirst => b3.toNat + 256 * b2.toNat + 65536 * b1.toNat + 16777216 * b0.toNat

/-- R256: the bits a command can raise, by the column "raised in"; `RXOVR` is raised by a byte that arrives meanwhile. -/
def raisable (i : Instr) : BitVec 8 :=
  match i with
  | .connect _ _ => 0x5A#8
  | .isconnected => 0x4B#8
  | .exchange _ _ => 0x43#8
  | .getpos _ => 0x67#8
  | .reserved _ => 0x80#8
  | .wirePing | .wireClearfaults | .wireSettrajabs _ _ | .wireAmpon _ _ | .wireAmpoff _ _ | .wireHome _ _
  | .wireStartmove _ _ | .wireReadpos _ _ | .wireSetpos _ _ _ => 0x43#8
  | .wirePingResponse | .wireGeneric _ => 0x40#8
  | .encode _ | .decode _ | .chkvalid _ | .sealPkt _ | .packvid _ _ | .unpackvid _ | .i32tow _ | .wtoi32 _ => 0x00#8
  | .ping | .clearfaults | .settrajabs _ | .ampon _ | .ampoff _ | .home _ | .startmove _ | .readpos _
  | .setpos _ _ | .disconnect => 0x00#8

/-- The instructions that are a packet's arrival, not a command. -/
def isArrival (i : Instr) : Bool :=
  match i with
  | .wirePingResponse | .wireGeneric _ => true
  | _ => false

/-- R36: the codec and catalog commands. -/
def isPure (i : Instr) : Bool :=
  match i with
  | .encode _ | .decode _ | .chkvalid _ | .sealPkt _ | .packvid _ _ | .unpackvid _ | .i32tow _ | .wtoi32 _ => true
  | .ping | .clearfaults | .settrajabs _ | .ampon _ | .ampoff _ | .home _ | .startmove _ | .readpos _ | .setpos _ _ => true
  | _ => false

/-- R194: the request a command writes when it starts in `Idle`, if it writes one. -/
def requestOf (cfg : Config) (i : Instr) : Option Packet :=
  match i with
  | .isconnected => some pingRequest
  | .exchange p _ => some p
  | .getpos a => some (readposRequest a)
  | .wirePing => some pingRequest
  | .wireClearfaults => some (clearRequest cfg)
  | .wireSettrajabs a c => some (rowSettrajabs a c)
  | .wireAmpon a c => some (rowAmpon cfg a c)
  | .wireAmpoff a c => some (rowAmpoff a c)
  | .wireHome a c => some (rowHome cfg a c)
  | .wireStartmove a c => some (rowStartmove cfg a c)
  | .wireReadpos a c => some (rowReadpos a c)
  | .wireSetpos a c v => some (rowSetpos cfg a c v)
  | _ => none

/-! ### Waiting -/

/-- The line at which a command that can wait begins; `none` for the commands that end in the step in which they start, and
for a packet's arrival. -/
def firstJob (cfg : Config) (i : Instr) : Option Job :=
  match i with
  | .connect auto port => some (.connect [] (.test auto port))
  | .isconnected => some (probeStart .isconnected)
  | .exchange p tmo => some (.xchg .exchange (.test p tmo))
  | .getpos a => some (getposStart a)
  | .wirePing => some (.xchg .exchange (.test rowPing tProbeMs))
  | .wireClearfaults => some (.xchg .exchange (.test (rowClearfaults cfg) tDefaultMs))
  | .wireSettrajabs a c => some (.xchg .exchange (.test (rowSettrajabs a c) tDefaultMs))
  | .wireAmpon a c => some (.xchg .exchange (.test (rowAmpon cfg a c) tDefaultMs))
  | .wireAmpoff a c => some (.xchg .exchange (.test (rowAmpoff a c) tDefaultMs))
  | .wireHome a c => some (.xchg .exchange (.test (rowHome cfg a c) tDefaultMs))
  | .wireStartmove a c => some (.xchg .exchange (.test (rowStartmove cfg a c) tDefaultMs))
  | .wireReadpos a c => some (.xchg .exchange (.test (rowReadpos a c) tDefaultMs))
  | .wireSetpos a c v => some (.xchg .exchange (.test (rowSetpos cfg a c v) tDefaultMs))
  | _ => none

/-- R99: a command taken from the port, at its first line. -/
def started (s : State) (j : Job) : State := s.accept.goto j

/-- R29: whether in this cycle a tick ends a `wait_tick()`. -/
def tickTaken (s : State) : Bool :=
  match s.job, s.cycle.job with
  | some (.xchg _ .wait), some (.xchg _ .count) => true
  | _, _ => false

/-- R29, R191: the ticks a command waits for in its next `n` cycles. -/
def ticksWaited : Nat → State → Nat
  | 0, _ => 0
  | n + 1, s => if s.busy then (if tickTaken s then 1 else 0) + ticksWaited n s.cycle else 0

/-- R191: the greatest number of ticks an instruction waits for, by the session state at its start. In `Closed` only `CONNECT`
waits; in `Idle` `CONNECT` does not (R185). The wire request rows are exchanges (log entry 4). -/
def waitLimit (cfg : Config) (st : SessionState) (i : Instr) : Nat :=
  match st, i with
  | .closed, .connect false _ => 170
  | .closed, .connect true _ => cfg.nPorts * 20 + 150
  | .closed, _ => 0
  | _, .connect _ _ => 0
  | _, .isconnected => 20
  | _, .exchange _ tmo => (tmo.toNat + 99) / 100
  | _, .wirePing => 20
  | _, _ => 150

/-! ### The lines of a scan, one `go` each (log entry 7) -/

/-- R185: a port that does not open: the loop, `open_ok`, `diag(OPENFAIL)`, `return false`. -/
def refusedPort : List Input := List.replicate 4 .go

/-- R185: a port that opens to a silent peer: eight lines to the first check, 20 ticks with the count and the two lines of the
next check after each, and nine lines from the drain to the `return false`. -/
def silentPort : List Input :=
  List.replicate 8 .go ++ (List.replicate 20 [Input.tick, .go, .go, .go]).flatten ++ List.replicate 9 .go

/-- The inputs that bring a scan past ports that do not open (`false`) and ports with a silent peer (`true`). -/
def passedPorts (opens : List Bool) : List Input := opens.flatMap fun o => if o then silentPort else refusedPort

/-! ### The line -/

/-- R192: nothing outside asserts reset. -/
def NoReset (s : State) : Prop := Input.reset ∉ s.inputs

/-- Nothing outside looks, so a step ends when its command does. -/
def NoLook (s : State) : Prop := Input.look ∉ s.inputs

end Sys2Proof
end

