-- ==== Sys2Proof/Certificates/Slice0/Obligations.lean ====
section
/-! DEFINITION. The statements for the provers. Each docstring names the rule of spec/ it formalises. A statement about "every
state" is also a statement about every value of the parameters (`cfg`), every answer to a port-open attempt (`opens`) and
every sequence of events outside the block (`inputs`), since a state holds them. -/

open Sys2Proof Sys2Proof.Machine

/-! ### Decoding and encoding -/

/-- 30_encoding.md R86, R91, R100 and opcode_table.json: the words of some rows, bit by bit. Tier 1, sanity. -/
def Obligations.TableWordsDecodeToTheirRows : Prop :=
  decode Config.default (.cmd 0b00000001#8 Args.zero) = .ok (.encode ⟨0#8, 0#8, 0#8, 0#8, []⟩) ∧
  decode Config.default (.cmd 0b00010000#8 Args.zero) = .ok .ping ∧
  decode Config.default (.cmd 0b00100010#8 Args.zero) = .ok .isconnected ∧
  decode Config.default (.cmd 0b00001001#8 Args.zero) = .ok (.reserved 0x09#8) ∧
  decode Config.default (.wire [0b00000000#8, 0b01011101#8, 0b00000000#8, 0b00000111#8]) = .ok .wirePing ∧
  decode Config.default (.wire [0b00000001#8, 0b01100001#8, 0b00000001#8, 0b00001100#8, 0b00100000#8, 0b00010111#8]) =
    .ok (.wireReadpos 1#3 0x61#8) ∧
  decode Config.default (.wire [0x00#8, 0x5B#8, 0x01#8, 0x00#8, 0x00#8, 0x00#8]) = .ok .wirePingResponse

/-- Every well-formed instruction is what its own word decodes to (opcode_table.json; R100, R101). -/
def Obligations.DecodeInvertsEncode : Prop :=
  ∀ (cfg : Config) (i : Instr), WellFormed cfg i = true → decode cfg (encode cfg i) = .ok i

/-- Decoding loses no byte of a packet on the wire, and no instruction it gives is ill-formed. -/
def Obligations.DecodedWireBytesAreKept : Prop :=
  (∀ (cfg : Config) (bytes : List Byte) (i : Instr),
    decode cfg (.wire bytes) = .ok i → encode cfg i = .wire bytes) ∧
  (∀ (cfg : Config) (w : PortWord) (i : Instr), decode cfg w = .ok i → WellFormed cfg i = true)

/-- R308: with `TRAJ_SUBCMD = NONE`, `HOME a` and `STARTMOVE a` are the same four bytes, and their wire rows one word; with
`PAYLOAD_WORD` they differ. -/
def Obligations.HomeAndStartmoveAreOneWord : Prop :=
  ∀ (cfg : Config) (a : Axis) (c : Byte),
    (cfg.trajSubcmd = .none →
      homePacket cfg a = startmovePacket cfg a ∧ (wireBytes (homePacket cfg a)).length = 4 ∧
      encode cfg (.wireStartmove a c) = encode cfg (.wireHome a c) ∧
      decode cfg (encode cfg (.wireStartmove a c)) = .ok (.wireHome a c)) ∧
    (cfg.trajSubcmd = .payloadWord →
      homePacket cfg a ≠ startmovePacket cfg a ∧
      decode cfg (encode cfg (.wireStartmove a c)) = .ok (.wireStartmove a c))

/-- Every catalog packet on the wire is an instance of its own row of opcode_table.json (R150 to R158): the row, with the
axis and the checksum of the packet in its fields, is the packet. The table prints the rows for the default parameters; the
rows for the other values are the model's deduction from R151, R153, R155, R156 and R158 (log entry 20, DEDUCED). -/
def Obligations.CatalogPacketsFitTheirWireRows : Prop :=
  ∀ (cfg : Config) (a : Axis) (v : Word32),
    pingPacket = rowPing ∧ clearfaultsPacket cfg = rowClearfaults cfg ∧
    settrajabsPacket cfg a = rowSettrajabs a (settrajabsPacket cfg a).checksum ∧
    amponPacket cfg a = rowAmpon cfg a (amponPacket cfg a).checksum ∧
    ampoffPacket cfg a = rowAmpoff a (ampoffPacket cfg a).checksum ∧
    homePacket cfg a = rowHome cfg a (homePacket cfg a).checksum ∧
    startmovePacket cfg a = rowStartmove cfg a (startmovePacket cfg a).checksum ∧
    readposPacket a = rowReadpos a (readposPacket a).checksum ∧
    setposPacket cfg a v = rowSetpos cfg a (setposPacket cfg a v).checksum v

/-! ### A step -/

/-- R24, R97, R99: a word presented while no command is in flight is decoded and its instruction run; nothing is added but
that the word is used up and `done` is down. That one step runs the word to its command's end is the model's choice (log
entries 8 and 10, DESIGN CHOICE; 9 for `done`, DEDUCED), and so is that the step refuses a word that does not decode (log
entry 11, DEDUCED: the spec says only that such a word cannot be presented). -/
def Obligations.StepRunsTheDecodedInstruction : Prop :=
  ∀ (s : State) (w : PortWord) (ins : List Input), s.busy = false → s.inputs = .word w :: ins →
    (∀ i, decode s.cfg w = .ok i → step s = exec i { s with done := false, inputs := ins }) ∧
    (∀ e, decode s.cfg w = .error e → step s = .refused (.badWord e))

/-- R98, R33, R80: a word is refused only for a `pkt` argument over `MAX_PAYLOAD`, for a `bytes` argument over a finite
`RX_DEPTH`, or for a packet shorter than its header. The refusal is log entry 11's (DEDUCED). -/
def Obligations.OnlyUnpresentableWordsAreRefused : Prop :=
  ∀ (cfg : Config),
    (∀ code args e, decode cfg (.cmd code args) = .error e →
      (e = .payloadTooLong ∧ 510 < args.pkt.payload.length ∧ code ∈ [0x01#8, 0x03#8, 0x04#8, 0x23#8]) ∨
      (e = .bytesTooLong ∧ code = 0x02#8 ∧ ∃ d, cfg.rxDepth = some d ∧ d < args.bytes.length)) ∧
    (∀ bytes e, decode cfg (.wire bytes) = .error e → e = .shorterThanHeader ∧ bytes.length < 4)

/-- R250, R12: no instruction stops: every one answers a next state, from every state. -/
def Obligations.EveryInstructionAnswersAState : Prop :=
  ∀ (i : Instr) (s : State), ∃ t, exec i s = .next t

/-- R191, under the fairness of R29: every command ends, whatever happens outside. -/
def Obligations.EveryCommandEnds : Prop :=
  ∀ (i : Instr) (s : State), s.busy = false → NoLook s → ∃ t, exec i s = .next t ∧ t.busy = false

/-- R40 with R22, R25, R26, R27, R30 and the register widths of R33: the invariant holds at reset. -/
def Obligations.ResetStateIsCoherent : Prop := Coherent State.reset

/-- R40 with R22, R25, R26, R27, R30 and the register widths of R33: every step keeps the invariant. -/
def Obligations.StepKeepsCoherence : Prop :=
  ∀ s t : State, Coherent s → step s = .next t → Coherent t

/-- R40 (e), (f): no step but one with a reset clears a bit of `DIAG` or removes an entry of `TXLOG`. -/
def Obligations.DiagSticksAndTxlogGrows : Prop :=
  ∀ s t : State, NoReset s → step s = .next t → s.diag ||| t.diag = t.diag ∧ s.txlog <+: t.txlog

/-- R32: no rule reads `DIAG`: two states that differ in `DIAG` alone answer states that differ in `DIAG` alone. -/
def Obligations.DiagIsReadByNothing : Prop :=
  ∀ (s t : State) (d : BitVec 8), step s = .next t →
    ∃ d', step { s with diag := d } = .next { t with diag := d' }

/-- R290, R291: reset, asserted at any moment, a command in flight or not, leaves exactly the reset values. -/
def Obligations.ResetFromAnyState : Prop :=
  ∀ (s : State) (ins : List Input), s.inputs = .reset :: ins →
    ∃ t, step s = .next t ∧ t.st = .closed ∧ t.conn = .disconnected ∧ t.port = 0 ∧ t.ph = .ready ∧ t.tmo = 0#16 ∧
      t.el = 0#17 ∧ (∀ a : Axis, t.lastposAt a = 0#32) ∧ t.diag = 0x00#8 ∧ t.rxq = [] ∧ t.txlog = [] ∧
      t.busy = false ∧ t.result = none ∧ t.done = false ∧ t.cfg = s.cfg ∧ t.opens = s.opens ∧ t.inputs = ins

/-- R99: a `start` while `busy` is true is ignored: the command changes nothing, presented to `exec` or standing among the
inputs of the command in flight. -/
def Obligations.StartWhileBusyIsIgnored : Prop :=
  (∀ (i : Instr) (s : State), s.busy = true → isArrival i = false → exec i s = .next s) ∧
  (∀ (s : State) (code : Byte) (args : Args) (ins : List Input), s.busy = true →
    s.inputs = .word (.cmd code args) :: ins → s.cycle = { s with inputs := ins })

/-- R52, R54: a byte arrives at the tail of `RXQ` while a port is open, is discarded with `DIAG.RXOVR` at a full queue, and
is not received in `Closed`; between commands and in one. -/
def Obligations.ByteArrival : Prop :=
  ∀ (s : State) (b : Byte) (ins : List Input), s.inputs = .rx b :: ins →
    (s.busy = true → s.st = .closed → s.cycle = { s with inputs := ins }) ∧
    (s.busy = true → s.st ≠ .closed → (∀ d, s.cfg.rxDepth = some d → s.rxq.length < d) →
      s.cycle = { s with inputs := ins, rxq := s.rxq ++ [b] }) ∧
    (s.busy = true → s.st ≠ .closed → s.cfg.rxDepth = some s.rxq.length →
      s.cycle = { s with inputs := ins, diag := s.diag ||| 0x40#8 }) ∧
    (s.busy = false → s.st = .closed → step s = .next { s with inputs := ins, done := false }) ∧
    (s.busy = false → s.st ≠ .closed → (∀ d, s.cfg.rxDepth = some d → s.rxq.length < d) →
      step s = .next { s with inputs := ins, done := false, rxq := s.rxq ++ [b] }) ∧
    (s.busy = false → s.st ≠ .closed → s.cfg.rxDepth = some s.rxq.length →
      step s = .next { s with inputs := ins, done := false, diag := s.diag ||| 0x40#8 })

/-- R51, R57, R192: reset apart, one cycle changes `TXLOG` only at the write of an exchange, which is not done in `Closed` and
appends the whole packet with the port it goes to. -/
def Obligations.OnlyAnOpenExchangeTransmits : Prop :=
  ∀ s : State, Coherent s → s.inputs.head? ≠ some .reset →
    s.cycle.txlog = s.txlog ∨
    ∃ k p tmo, s.job = some (.xchg k (.write p tmo)) ∧ s.st ≠ .closed ∧
      s.cycle.txlog = s.txlog ++ sent s.port (wireBytes p)

/-- R53, R56: one cycle takes bytes out of `RXQ` only by emptying it: at the drain of an exchange, at the opening or the
closing of a port, or at reset. -/
def Obligations.BytesLeaveTheQueueTogether : Prop :=
  ∀ s : State,
    (∃ bs, s.cycle.rxq = s.rxq ++ bs) ∨
    (s.cycle.rxq = [] ∧
      (s.inputs.head? = some .reset ∨ (∃ k, s.job = some (.xchg k .drain)) ∨
       (∃ rest p, s.job = some (.connect rest (.opening p))) ∨ (∃ rest, s.job = some (.connect rest .close))))

/-- R22, R23: the encodings of `ST` and of `CONN`, a function of `ST`. -/
def Obligations.ConnFollowsSt : Prop :=
  ∀ s : State,
    (s.st = .closed → s.st.code = 0#2 ∧ s.conn = .disconnected ∧ s.conn.code = 0#2) ∧
    (s.st = .opening → s.st.code = 1#2 ∧ s.conn = .connecting ∧ s.conn.code = 1#2) ∧
    (s.st = .probing → s.st.code = 2#2 ∧ s.conn = .connecting ∧ s.conn.code = 1#2) ∧
    (s.st = .idle → s.st.code = 3#2 ∧ s.conn = .connected ∧ s.conn.code = 2#2)

/-- R29: the block counts a tick only while an exchange waits for one, in a command and between commands; the count is the
line after. -/
def Obligations.TicksCountOnlyWhileAnExchangeWaits : Prop :=
  ∀ (s : State) (ins : List Input), s.inputs = .tick :: ins →
    (∀ k, s.job = some (.xchg k .wait) → s.cycle = { s with inputs := ins, job := some (.xchg k .count) }) ∧
    ((∀ k, s.job ≠ some (.xchg k .wait)) → s.cycle = { s with inputs := ins }) ∧
    (s.busy = false → step s = .next { s with inputs := ins, done := false }) ∧
    (∀ k, s.job = some (.xchg k .count) → s.blockLine = { s with el := s.el + 100#17, job := some (.xchg k .avail) })

/-- R33: the result of a command is held on the result port until the next command starts: no event between commands but reset
changes it. -/
def Obligations.ResultIsHeldUntilTheNextCommand : Prop :=
  ∀ (s t : State), s.busy = false → (∀ w ins, s.inputs ≠ .word w :: ins) → s.inputs.head? ≠ some .reset →
    step s = .next t → t.result = s.result

/-- R36: a codec or catalog command reads no register and writes none: its result is a function of its arguments and of the
parameters, and only the result port changes. -/
def Obligations.CodecAndCatalogTouchNoRegister : Prop :=
  ∀ (i : Instr) (s s' : State), isPure i = true → s.busy = false → s'.busy = false → s.cfg = s'.cfg →
    ∃ v, exec i s = .next (endedWith s v) ∧ exec i s' = .next (endedWith s' v)

/-! ### The codec (40_codec.md) -/

/-- R120. -/
def Obligations.EncodeReturnsTheWireBytes : Prop :=
  ∀ (s : State) (args : Args), s.busy = false → args.pkt.payload.length ≤ 510 →
    decode s.cfg (.cmd 0x01#8 args) = .ok (.encode args.pkt) ∧
    exec (.encode args.pkt) s = .next (endedWith s (.bytes
      ([args.pkt.node, args.pkt.checksum, args.pkt.dataSize, args.pkt.opcode] ++ args.pkt.payload)))

/-- R121; the argument is one the port can carry (R33, R98). -/
def Obligations.DecodeReturnsThePacket : Prop :=
  ∀ (s : State) (args : Args), s.busy = false →
    ((∀ d, s.cfg.rxDepth = some d → args.bytes.length ≤ d) →
      decode s.cfg (.cmd 0x02#8 args) = .ok (.decode args.bytes)) ∧
    (args.bytes.length < 4 →
      exec (.decode args.bytes) s = .next (endedWith s (.pkt ⟨0#8, 0#8, 0#8, 0#8, []⟩))) ∧
    (∀ node checksum dataSize opcode payload, args.bytes = node :: checksum :: dataSize :: opcode :: payload →
      exec (.decode args.bytes) s = .next (endedWith s (.pkt ⟨node, checksum, dataSize, opcode, payload⟩)))

/-- R122. -/
def Obligations.ChkvalidTestsTheExclusiveOr : Prop :=
  ∀ (s : State) (args : Args), s.busy = false → args.pkt.payload.length ≤ 510 →
    decode s.cfg (.cmd 0x03#8 args) = .ok (.chkvalid args.pkt) ∧
    exec (.chkvalid args.pkt) s = .next (endedWith s (.bool
      (decide ((wireBytes args.pkt).foldl (· ^^^ ·) 0x00#8 = 0x5A#8))))

/-- R123. -/
def Obligations.SealSetsTheChecksumAlone : Prop :=
  ∀ (s : State) (args : Args), s.busy = false → args.pkt.payload.length ≤ 510 →
    decode s.cfg (.cmd 0x04#8 args) = .ok (.sealPkt args.pkt) ∧
    exec (.sealPkt args.pkt) s = .next (endedWith s (.pkt
      (sealedPacket args.pkt.node args.pkt.dataSize args.pkt.opcode args.pkt.payload)))

/-- R124. -/
def Obligations.PackvidReturnsTheIdentifierWord : Prop :=
  ∀ (s : State) (args : Args), s.busy = false →
    decode s.cfg (.cmd 0x05#8 args) = .ok (.packvid args.axis args.varnum) ∧
    ∃ w : Bytes2, exec (.packvid args.axis args.varnum) s = .next (endedWith s (.b2 w)) ∧
      256 * w.b0.toNat + w.b1.toNat = args.varnum.toNat + 8192 * args.axis.toNat

/-- R125. -/
def Obligations.UnpackvidReturnsTheFields : Prop :=
  ∀ (s : State) (args : Args), s.busy = false →
    decode s.cfg (.cmd 0x06#8 args) = .ok (.unpackvid args.b2) ∧
    ∃ axis bank varnum, exec (.unpackvid args.b2) s = .next (endedWith s (.vid axis bank varnum)) ∧
      axis.toNat = (256 * args.b2.b0.toNat + args.b2.b1.toNat) / 8192 ∧
      bank.toNat = (256 * args.b2.b0.toNat + args.b2.b1.toNat) / 4096 % 2 ∧
      varnum.toNat = (256 * args.b2.b0.toNat + args.b2.b1.toNat) % 512

/-- R126. -/
def Obligations.I32towReturnsTheBytesInWireOrder : Prop :=
  ∀ (s : State) (args : Args), s.busy = false →
    decode s.cfg (.cmd 0x07#8 args) = .ok (.i32tow args.pos) ∧
    ∃ w : Bytes4, exec (.i32tow args.pos) s = .next (endedWith s (.b4 w)) ∧
      patternOf s.cfg.intWireOrder w.b0 w.b1 w.b2 w.b3 = args.pos.toNat

/-- R127, with `signed32` of R8. -/
def Obligations.Wtoi32ReadsTheBytesInWireOrder : Prop :=
  ∀ (s : State) (args : Args), s.busy = false →
    decode s.cfg (.cmd 0x08#8 args) = .ok (.wtoi32 args.b4) ∧
    ∃ v : Word32, exec (.wtoi32 args.b4) s = .next (endedWith s (.int32 v)) ∧
      v.toInt =
        (if patternOf s.cfg.intWireOrder args.b4.b0 args.b4.b1 args.b4.b2 args.b4.b3 < 2 ^ 31
         then (patternOf s.cfg.intWireOrder args.b4.b0 args.b4.b1 args.b4.b2 args.b4.b3 : Int)
         else (patternOf s.cfg.intWireOrder args.b4.b0 args.b4.b1 args.b4.b2 args.b4.b3 : Int) - 2 ^ 32)

/-- R128: the round trip of the serialiser, in both directions. -/
def Obligations.SerialiserRoundTrip : Prop :=
  (∀ p : Packet, packetOf (bytesOf p) = p) ∧
  (∀ s : List Byte, 4 ≤ s.length → bytesOf (packetOf s) = s) ∧
  (∀ s : List Byte, s.length < 4 → bytesOf (packetOf s) = [0x00#8, 0x00#8, 0x00#8, 0x00#8])

/-- R129 with R96 (a): the laws of the checksum; `k` numbers the bits of the packet's bytes. -/
def Obligations.ChecksumLaws : Prop :=
  (∀ p : Packet, checksumValid (sealPacket p) = true) ∧
  (∀ p : Packet, sealPacket (sealPacket p) = sealPacket p) ∧
  (∀ p : Packet, checksumValid p = true ↔ sealPacket p = p) ∧
  (∀ (p : Packet) (i k : Nat), checksumValid p = true → i < (bytesOf p).length → k < 8 →
    checksumValid (packetOf ((bytesOf p).modify i (fun b => b ^^^ (1#8 <<< k)))) = false)

/-- R96 (b), R303: the checksum does not see a change of one bit position in two bytes, nor any reordering of the bytes. -/
def Obligations.ChecksumBlindSpots : Prop :=
  (∀ (p : Packet) (i j k : Nat), i < (bytesOf p).length → j < (bytesOf p).length → i ≠ j → k < 8 →
    checksumValid (packetOf
      (((bytesOf p).modify i (fun b => b ^^^ (1#8 <<< k))).modify j (fun b => b ^^^ (1#8 <<< k)))) = checksumValid p) ∧
  (∀ p q : Packet, (bytesOf p).Perm (bytesOf q) → checksumValid p = checksumValid q)

/-- R130: the round trip of the identifier word, and that `PACKVID` is injective. -/
def Obligations.IdentifierWordRoundTrip : Prop :=
  (∀ (a : Axis) (n : VarNum), vidAxis (vidOf (packVid a n)) = a ∧ vidBank (vidOf (packVid a n)) = 0#1 ∧
    vidVarnum (vidOf (packVid a n)) = n) ∧
  (∀ (a a' : Axis) (n n' : VarNum), packVid a n = packVid a' n' → a = a' ∧ n = n')

/-- R131: the round trip of the integer conversion under either order, and that the orders reverse each other. -/
def Obligations.IntegerRoundTrip : Prop :=
  (∀ (o : WireOrder) (v : Word32), int32Of o (val32 o v) = v) ∧
  (∀ (o : WireOrder) (w : Bytes4), val32 o (int32Of o w) = w) ∧
  (∀ v : Word32, (val32 .msbFirst v).toList = (val32 .lsbFirst v).toList.reverse)

/-- R101: a reserved code does `diag(ILLCMD)` and returns status `ILLEGAL`; nothing else changes. -/
def Obligations.ReservedCodeIsIllegal : Prop :=
  ∀ (s : State) (code : Byte) (args : Args), s.busy = false →
    (code = 0x00#8 ∨ (0x09 ≤ code.toNat ∧ code.toNat ≤ 0x0F) ∨ (0x19 ≤ code.toNat ∧ code.toNat ≤ 0x1F) ∨
      0x25 ≤ code.toNat) →
    decode s.cfg (.cmd code args) = .ok (.reserved code) ∧
    exec (.reserved code) s =
      .next { s with diag := s.diag ||| 0x80#8, result := some ⟨.illegal, none⟩, done := true }

/-! ### The catalog (41_catalog.md) -/

/-- R150, R151. -/
def Obligations.GlobalRequests : Prop :=
  ∀ (s : State) (args : Args), s.busy = false →
    decode s.cfg (.cmd 0x10#8 args) = .ok .ping ∧
    exec .ping s = .next (endedWith s (.pkt ⟨0x00#8, 0x5D#8, 0x00#8, 0x07#8, []⟩)) ∧
    decode s.cfg (.cmd 0x11#8 args) = .ok .clearfaults ∧
    (s.cfg.clearfaultsFill = .allFF → exec .clearfaults s = .next (endedWith s (.pkt
      ⟨0x00#8, 0xF5#8, 0x03#8, 0x0D#8, [0x00#8, 0xA1#8, 0xFF#8, 0xFF#8, 0xFF#8, 0xFF#8]⟩))) ∧
    (s.cfg.clearfaultsFill = .sourceBug → exec .clearfaults s = .next (endedWith s (.pkt
      ⟨0x00#8, 0x0A#8, 0x03#8, 0x0D#8, [0x00#8, 0xA1#8, 0xFF#8, 0x00#8, 0x00#8, 0x00#8]⟩)))

/-- R152, R153, R154, R158, with R93 for the order of the value bytes. -/
def Obligations.SetVariableRequests : Prop :=
  ∀ (s : State) (args : Args), s.busy = false →
    decode s.cfg (.cmd 0x12#8 args) = .ok (.settrajabs args.axis) ∧
    exec (.settrajabs args.axis) s =
      .next (endedWith s (.pkt (axisRequest args.axis 0x02#8 0x0D#8 0xC8#8 [0x00#8, 0x00#8]))) ∧
    decode s.cfg (.cmd 0x13#8 args) = .ok (.ampon args.axis) ∧
    (s.cfg.intWireOrder = .lsbFirst → exec (.ampon args.axis) s =
      .next (endedWith s (.pkt (axisRequest args.axis 0x02#8 0x0D#8 0x24#8 [0x15#8, 0x00#8])))) ∧
    (s.cfg.intWireOrder = .msbFirst → exec (.ampon args.axis) s =
      .next (endedWith s (.pkt (axisRequest args.axis 0x02#8 0x0D#8 0x24#8 [0x00#8, 0x15#8])))) ∧
    decode s.cfg (.cmd 0x14#8 args) = .ok (.ampoff args.axis) ∧
    exec (.ampoff args.axis) s =
      .next (endedWith s (.pkt (axisRequest args.axis 0x02#8 0x0D#8 0x24#8 [0x00#8, 0x00#8]))) ∧
    decode s.cfg (.cmd 0x18#8 args) = .ok (.setpos args.axis args.pos) ∧
    ∃ b0 b1 b2 b3, patternOf s.cfg.intWireOrder b0 b1 b2 b3 = args.pos.toNat ∧
      exec (.setpos args.axis args.pos) s =
        .next (endedWith s (.pkt (axisRequest args.axis 0x03#8 0x0D#8 0xCA#8 [b0, b1, b2, b3])))

/-- R155, R156. -/
def Obligations.TrajectoryRequests : Prop :=
  ∀ (s : State) (args : Args), s.busy = false →
    decode s.cfg (.cmd 0x15#8 args) = .ok (.home args.axis) ∧
    decode s.cfg (.cmd 0x16#8 args) = .ok (.startmove args.axis) ∧
    (s.cfg.trajSubcmd = .none →
      exec (.home args.axis) s =
        .next (endedWith s (.pkt (sealedPacket (BitVec.ofNat 8 args.axis.toNat) 0x00#8 0x11#8 []))) ∧
      exec (.startmove args.axis) s =
        .next (endedWith s (.pkt (sealedPacket (BitVec.ofNat 8 args.axis.toNat) 0x00#8 0x11#8 [])))) ∧
    (s.cfg.trajSubcmd = .payloadWord →
      exec (.home args.axis) s = .next (endedWith s (.pkt
        (sealedPacket (BitVec.ofNat 8 args.axis.toNat) 0x01#8 0x11#8 [0x00#8, 0x02#8]))) ∧
      exec (.startmove args.axis) s = .next (endedWith s (.pkt
        (sealedPacket (BitVec.ofNat 8 args.axis.toNat) 0x01#8 0x11#8 [0x00#8, 0x01#8]))))

/-- R157. -/
def Obligations.ReadposRequest : Prop :=
  ∀ (s : State) (args : Args), s.busy = false →
    decode s.cfg (.cmd 0x17#8 args) = .ok (.readpos args.axis) ∧
    exec (.readpos args.axis) s = .next (endedWith s (.pkt (axisRequest args.axis 0x01#8 0x0C#8 0x17#8 [])))

/-- R160. -/
def Obligations.CatalogLaws : Prop :=
  (∀ (cfg : Config) (a : Axis) (v : Word32) (p : Packet),
    p ∈ [pingPacket, clearfaultsPacket cfg, settrajabsPacket cfg a, amponPacket cfg a, ampoffPacket cfg a,
      homePacket cfg a, startmovePacket cfg a, readposPacket a, setposPacket cfg a v] →
    checksumValid p = true ∧ p.payload.length = 2 * p.dataSize.toNat ∧ p.payload.length ∈ [0, 2, 4, 6] ∧
      p.opcode ∈ [0x07#8, 0x0C#8, 0x0D#8, 0x11#8] ∧ p ≠ ⟨0#8, 0#8, 0#8, 0#8, []⟩) ∧
  (∀ (cfg : Config) (a : Axis) (v : Word32) (p : Packet),
    p ∈ [settrajabsPacket cfg a, amponPacket cfg a, ampoffPacket cfg a, homePacket cfg a, startmovePacket cfg a,
      readposPacket a, setposPacket cfg a v] → p.node.toNat = a.toNat) ∧
  (∀ (cfg : Config) (a : Axis) (v : Word32) (p : Packet),
    p ∈ [clearfaultsPacket cfg, settrajabsPacket cfg a, amponPacket cfg a, ampoffPacket cfg a, readposPacket a,
      setposPacket cfg a v] →
    ∃ b0 b1 rest, p.payload = b0 :: b1 :: rest ∧ (vidAxis (vidOf ⟨b0, b1⟩)).toNat = p.node.toNat)

/-! ### The transport session (42_transport.md) -/

/-- R183, R188 on a quiet line: pass-through in `Closed`; in `Idle` one write, the wait, one drain. -/
def Obligations.ExchangeOnAQuietLine : Prop :=
  ∀ (s : State) (args : Args), Quiet s → (s.st = .closed ∨ s.st = .idle) → args.pkt.payload.length ≤ 510 →
    decode s.cfg (.cmd 0x23#8 args) = .ok (.exchange args.pkt args.tmo) ∧
    exec (.exchange args.pkt args.tmo) s =
      .next (endedWith (afterXchg s args.pkt args.tmo) (.pkt (answerTo s args.pkt)))

/-- R184, R187 on a quiet line: true exactly when the drained bytes are the ping signature; `ST` does not change. -/
def Obligations.IsconnectedOnAQuietLine : Prop :=
  ∀ (s : State) (args : Args), Quiet s → (s.st = .closed ∨ s.st = .idle) →
    decode s.cfg (.cmd 0x22#8 args) = .ok .isconnected ∧
    (s.st = .idle → s.rxq = [0x00#8, 0x5B#8, 0x01#8, 0x00#8, 0x00#8, 0x00#8] →
      exec .isconnected s = .next (endedWith (afterXchg s pingRequest 2000#16) (.bool true))) ∧
    (s.st = .closed ∨ s.rxq ≠ [0x00#8, 0x5B#8, 0x01#8, 0x00#8, 0x00#8, 0x00#8] →
      exec .isconnected s = .next (endedWith
        { afterXchg s pingRequest 2000#16 with diag := (afterXchg s pingRequest 2000#16).diag ||| 0x08#8 }
        (.bool false)))

/-- R190, R258 on a quiet line: the checksum is tested first, then the payload's length; the position of that axis alone is
written, and only when both hold. -/
def Obligations.GetposOnAQuietLine : Prop :=
  ∀ (s : State) (args : Args), Quiet s → (s.st = .closed ∨ s.st = .idle) →
    decode s.cfg (.cmd 0x24#8 args) = .ok (.getpos args.axis) ∧
    ((wireBytes (answerTo s (readposRequest args.axis))).foldl (· ^^^ ·) 0x00#8 ≠ 0x5A#8 →
      exec (.getpos args.axis) s = .next (endedWith
        { afterXchg s (readposRequest args.axis) 15000#16 with
          diag := (afterXchg s (readposRequest args.axis) 15000#16).diag ||| 0x04#8 }
        (.int32 (s.lastposAt args.axis)))) ∧
    ((wireBytes (answerTo s (readposRequest args.axis))).foldl (· ^^^ ·) 0x00#8 = 0x5A#8 →
      (answerTo s (readposRequest args.axis)).payload.length ≠ 4 →
      exec (.getpos args.axis) s = .next (endedWith
        { afterXchg s (readposRequest args.axis) 15000#16 with
          diag := (afterXchg s (readposRequest args.axis) 15000#16).diag ||| 0x20#8 }
        (.int32 (s.lastposAt args.axis)))) ∧
    (∀ b0 b1 b2 b3, (wireBytes (answerTo s (readposRequest args.axis))).foldl (· ^^^ ·) 0x00#8 = 0x5A#8 →
      (answerTo s (readposRequest args.axis)).payload = [b0, b1, b2, b3] →
      exec (.getpos args.axis) s = .next (endedWith
        { afterXchg s (readposRequest args.axis) 15000#16 with
          lastpos := s.lastpos.set args.axis.toNat
            (BitVec.ofNat 32 (patternOf s.cfg.intWireOrder b0 b1 b2 b3)) args.axis.isLt }
        (.int32 (BitVec.ofNat 32 (patternOf s.cfg.intWireOrder b0 b1 b2 b3)))))

/-- R183 (g), R300: bytes that come before the check are the response, bytes that come after the drain stay in `RXQ`, wherever
the peer's bytes are cut. The `go`s are the block's lines: five to the end of the first check, then the count, the second
check's two lines and the drain. -/
def Obligations.ResponseIsCutAtTheDrain : Prop :=
  ∀ (s : State) (p : Packet) (tmo : BitVec 16) (r₁ r₂ : List Byte), s.job = none → s.st = .idle → s.rxq = [] →
    0 < tmo.toNat → 4 ≤ r₁.length → (∀ d, s.cfg.rxDepth = some d → r₁.length ≤ d ∧ r₂.length ≤ d) →
    s.inputs = List.replicate 5 .go ++ r₁.map .rx ++ [.tick, .go, .go, .go, .go] ++ r₂.map .rx ++ [.await] →
    exec (.exchange p tmo) s = .next (endedWith
      { s with
        txlog := s.txlog ++ sent s.port (wireBytes p), tmo := tmo, el := 100#17, ph := .ready, rxq := r₂, inputs := [] }
      (.pkt (packetOf r₁)))

/-- R185, R193: `CONNECT` in `Idle` changes nothing and returns true, whatever its arguments. -/
def Obligations.ConnectWhenConnectedIsANoOp : Prop :=
  ∀ (s : State) (args : Args), Quiet s → s.st = .idle →
    decode s.cfg (.cmd 0x20#8 args) = .ok (.connect args.auto args.port) ∧
    exec (.connect args.auto args.port) s = .next (endedWith s (.bool true))

/-- R193: if `CONNECT` returns true, a `CONNECT` issued next returns true, opens nothing, writes nothing and reads nothing,
whatever arrives meanwhile; with nothing outside it changes nothing but the result. -/
def Obligations.ConnectTwiceIsIdempotent : Prop :=
  ∀ (s t : State) (auto auto' : Bool) (port port' : Nat), Coherent s → s.busy = false →
    exec (.connect auto port) s = .next t → t.busy = false → t.result = some ⟨.ok, some (.bool true)⟩ →
    (t.inputs = [] → exec (.connect auto' port') t = .next (endedWith t (.bool true))) ∧
    (NoReset t → NoLook t → ∃ u bs, exec (.connect auto' port') t = .next u ∧
      u.result = some ⟨.ok, some (.bool true)⟩ ∧ u.busy = false ∧ u.st = t.st ∧ u.port = t.port ∧ u.opens = t.opens ∧
      u.txlog = t.txlog ∧ u.rxq = t.rxq ++ bs)

/-- R182, R254: a port that does not open: false, `DIAG.OPENFAIL`, `ST`, `PORT` and `RXQ` unchanged; the environment is asked
only for a port below `N_PORTS`. -/
def Obligations.ConnectToAPortThatDoesNotOpen : Prop :=
  ∀ (s : State) (port : Nat), Quiet s → s.st = .closed →
    (s.cfg.nPorts ≤ port → exec (.connect false port) s =
      .next (endedWith { s with diag := s.diag ||| 0x10#8 } (.bool false))) ∧
    (∀ more, port < s.cfg.nPorts → s.opens = false :: more → exec (.connect false port) s =
      .next (endedWith { s with diag := s.diag ||| 0x10#8, opens := more } (.bool false)))

/-- R185, R253: a port that opens to a silent peer: the ping is written, 20 ticks are waited, the port is closed again. -/
def Obligations.ConnectToASilentPeer : Prop :=
  ∀ (s : State) (port : Nat) (more : List Bool), Quiet s → s.st = .closed → port < s.cfg.nPorts → s.opens = true :: more →
    exec (.connect false port) s = .next (endedWith
      { s with
        port := port, ph := .ready, tmo := 2000#16, el := 2000#17, rxq := [], opens := more,
        txlog := s.txlog ++ sent port [0x00#8, 0x5D#8, 0x00#8, 0x07#8], diag := s.diag ||| 0x0A#8 }
      (.bool false))

/-- R185, R294, D14: a peer that answers the ping with the signature before the second check. The `clearFaults` request is
written, its response is not examined, and the session is `Idle`: when the peer is silent after; when any bytes `r` arrive after
the write of that request (four or more end its wait at once); and for every line, `ins`, after the drain of the signature. The
`go`s are the block's lines (log entry 7): nine up to the first check, four from the count to the drain, nine more to the write
of the request. The port opens by the answer that stands in `opens` (log entry 3). -/
def Obligations.ConnectToAPeerThatAnswers : Prop :=
  ∀ (s : State) (port : Nat) (more : List Bool) (r : List Byte) (ins : List Input), s.job = none → s.cfg.wf = true →
    s.st = .closed → port < s.cfg.nPorts → s.opens = true :: more →
    (s.inputs = List.replicate 9 .go ++ pingSig.map .rx ++ [.await] →
      exec (.connect false port) s = .next (endedWith
        { s with
          st := .idle, port := port, ph := .ready, tmo := 15000#16, el := 15000#17, rxq := [], opens := more, inputs := [],
          txlog := s.txlog ++ sent port [0x00#8, 0x5D#8, 0x00#8, 0x07#8] ++ sent port (wireBytes (clearRequest s.cfg)),
          diag := s.diag ||| 0x02#8 }
        (.bool true))) ∧
    (s.inputs = List.replicate 9 .go ++ pingSig.map .rx ++ [.tick] ++ List.replicate 13 .go ++ r.map .rx ++ [.await] →
      exec (.connect false port) s = .next (endedWith
        { s with
          st := .idle, port := port, ph := .ready, tmo := 15000#16, rxq := [], opens := more, inputs := [],
          el := if 4 ≤ r.length then 0#17 else 15000#17,
          txlog := s.txlog ++ sent port [0x00#8, 0x5D#8, 0x00#8, 0x07#8] ++ sent port (wireBytes (clearRequest s.cfg)),
          diag := s.diag ||| (if 4 ≤ r.length then 0x00#8 else 0x02#8) |||
            (if s.cfg.rxDepth.any (fun d => decide (d < r.length)) then 0x40#8 else 0x00#8) }
        (.bool true))) ∧
    (s.inputs = List.replicate 9 .go ++ pingSig.map .rx ++ [.tick] ++ List.replicate 4 .go ++ ins →
      Input.reset ∉ ins → Input.look ∉ ins →
      ∃ t, exec (.connect false port) s = .next t ∧ t.busy = false ∧ t.result = some ⟨.ok, some (.bool true)⟩ ∧
        t.st = .idle ∧ t.port = port ∧ t.opens = more ∧ t.lastpos = s.lastpos ∧
        t.txlog = s.txlog ++ sent port [0x00#8, 0x5D#8, 0x00#8, 0x07#8] ++ sent port (wireBytes (clearRequest s.cfg)))

/-- R185: the scan stops at the first port that answers, leaves the ports after it untried, and reaches `Idle` there, past any
ports that do not open (`false` in `before`) and any that open to a silent peer (`true`), whatever the line does after the drain
of the signature. And on any line `CONNECT` in `Closed` returns true exactly when it has reached `Idle`, and after false the
session is `Closed` with `RXQ` empty (R185 c). The inputs name the block's lines (log entry 7); the answers of the ports stand
in `opens` (log entry 3). -/
def Obligations.ScanStopsAtThePortThatAnswers : Prop :=
  (∀ (s : State) (port : Nat) (before more : List Bool) (ins : List Input), s.job = none → s.cfg.wf = true →
    s.st = .closed → before.length < s.cfg.nPorts → s.opens = before ++ true :: more →
    s.inputs = List.replicate 2 .go ++ passedPorts before ++ List.replicate 8 .go ++ pingSig.map .rx ++ [.tick] ++
      List.replicate 4 .go ++ ins →
    Input.reset ∉ ins → Input.look ∉ ins →
    ∃ t, exec (.connect true port) s = .next t ∧ t.busy = false ∧ t.result = some ⟨.ok, some (.bool true)⟩ ∧
      t.st = .idle ∧ t.port = before.length ∧ t.opens = more ∧ t.lastpos = s.lastpos ∧
      t.txlog = s.txlog ++ ((List.range before.length).filter (fun p => before.getD p false)).flatMap
          (fun p => sent p [0x00#8, 0x5D#8, 0x00#8, 0x07#8]) ++
        sent before.length [0x00#8, 0x5D#8, 0x00#8, 0x07#8] ++ sent before.length (wireBytes (clearRequest s.cfg))) ∧
  (∀ (s t : State) (auto : Bool) (port : Nat), Coherent s → s.busy = false → NoReset s → NoLook s → s.st = .closed →
    exec (.connect auto port) s = .next t →
    t.result = some ⟨.ok, some (.bool (decide (t.st = .idle)))⟩ ∧ (t.st ≠ .idle → t.st = .closed ∧ t.rxq = []))

/-- R185, D12: the scan of a quiet line tries every port in ascending order, pings each one that opens, and returns false. -/
def Obligations.ScanTriesEveryPortInOrder : Prop :=
  ∀ (s : State) (port : Nat), Quiet s → s.st = .closed → s.cfg.nPorts ≤ s.opens.length →
    ∃ t, exec (.connect true port) s = .next t ∧ t.result = some ⟨.ok, some (.bool false)⟩ ∧ t.st = .closed ∧
      t.rxq = (if s.opens.take s.cfg.nPorts = List.replicate s.cfg.nPorts false then s.rxq else []) ∧
      t.lastpos = s.lastpos ∧ t.opens = s.opens.drop s.cfg.nPorts ∧
      t.txlog = s.txlog ++ ((List.range s.cfg.nPorts).filter (fun p => s.opens.getD p false)).flatMap
        (fun p => sent p [0x00#8, 0x5D#8, 0x00#8, 0x07#8])

/-- R186, R189. -/
def Obligations.DisconnectClosesThePort : Prop :=
  ∀ (s : State) (args : Args), s.busy = false →
    decode s.cfg (.cmd 0x21#8 args) = .ok .disconnect ∧
    (s.st = .closed → exec .disconnect s = .next (endedWith s (.bool true))) ∧
    (s.st ≠ .closed →
      exec .disconnect s = .next (endedWith { s with st := .closed, ph := .ready, rxq := [] } (.bool true)))

/-- R194: what each command adds to `TXLOG`, by the session state at its start, whatever the line does meanwhile. `CONNECT`
in `Closed` pings the ports it opens, in the order it tries them: the one it is given, or from port 0 up to the one that
answers; an answer of the environment is used up for each (R182), and the session is on the port pinged last. Three things here
are the model's choice and not R194's (DESIGN CHOICE): a wire request row is the exchange of its packet (log entry 4), the other
wire rows are arrivals (log entry 5), and an attempt for which no answer stands in `opens` fails (log entry 3). -/
def Obligations.WhatEachCommandTransmits : Prop :=
  ∀ (s t : State) (i : Instr), Coherent s → s.busy = false → NoReset s → NoLook s → exec i s = .next t →
    (s.st = .closed → (∀ auto port, i ≠ .connect auto port) → t.txlog = s.txlog) ∧
    (s.st = .idle → ∀ p, requestOf s.cfg i = some p → t.txlog = s.txlog ++ sent s.port (wireBytes p)) ∧
    (s.st = .idle → requestOf s.cfg i = none → t.txlog = s.txlog) ∧
    (∀ auto port, s.st = .closed → i = .connect auto port →
      ∃ opened : List Nat,
        t.txlog = s.txlog ++ opened.flatMap (fun p => sent p [0x00#8, 0x5D#8, 0x00#8, 0x07#8]) ++
          (if t.st = .idle then sent t.port (wireBytes (clearRequest s.cfg)) else []) ∧
        (t.st = .idle → opened.getLast? = some t.port) ∧
        (auto = false → opened = if port < s.cfg.nPorts ∧ s.opens.headD false = true then [port] else []) ∧
        (auto = true → opened = (List.range (if t.st = .idle then t.port + 1 else s.cfg.nPorts)).filter
          (fun p => s.opens.getD p false)))

/-- R256, column "raised in": a command raises no bit of `DIAG` but its own, and clears none. -/
def Obligations.EachCommandRaisesItsOwnBits : Prop :=
  ∀ (s t : State) (i : Instr), Coherent s → s.busy = false → NoReset s → exec i s = .next t →
    s.diag ||| t.diag = t.diag ∧ t.diag &&& ~~~(s.diag ||| raisable i) = 0#8

/-- R21, R23, R25, R181: the frame of every command, whatever the line does meanwhile: no command but `CONNECT` and
`DISCONNECT` changes `ST`, none but `CONNECT` changes `PORT` or asks the environment to open a port, none but `GETPOS` writes
`LASTPOS`, and `GETPOS` no entry but its axis's; the parameters never change. -/
def Obligations.FrameOfEveryCommand : Prop :=
  ∀ (s t : State) (i : Instr), Coherent s → s.busy = false → NoReset s → exec i s = .next t →
    t.cfg = s.cfg ∧
    ((∀ auto port, i ≠ .connect auto port) → t.port = s.port ∧ t.opens = s.opens ∧ (i ≠ .disconnect → t.st = s.st)) ∧
    ((∀ a, i ≠ .getpos a) → t.lastpos = s.lastpos) ∧
    (∀ a, i = .getpos a → ∀ b, b ≠ a → t.lastposAt b = s.lastposAt b)

/-- R191: the bounds on waiting, whatever the line does. Every command that can wait runs from its first line, and in any
number of cycles it waits for no more ticks than R191 says: `ceil(tmo/100)` for an exchange, 20 for `ISCONNECTED`, 150 for
`GETPOS`, 170 for `CONNECT` with `auto = 0`, `N_PORTS * 20 + 150` with `auto = 1`, none for any other command in `Closed`; every
other command takes nothing that stands ready outside. `EL` counts the ticks of the last exchange in steps of 100. (The wire
request rows are exchanges: log entry 4.) -/
def Obligations.WaitingIsBounded : Prop :=
  (∀ (s : State) (i : Instr) (j : Job) (n : Nat), Coherent s → s.busy = false → firstJob s.cfg i = some j →
    exec i s = .next ((started s j).runFor (started s j).bound) ∧
    ticksWaited n (started s j) ≤ waitLimit s.cfg s.st i) ∧
  (∀ (s t : State) (i : Instr), s.busy = false → firstJob s.cfg i = none → exec i s = .next t →
    t.busy = false ∧ t.inputs = s.inputs) ∧
  (∀ (s t : State), Coherent s → s.busy = false → NoReset s → NoLook s → s.st = .idle →
    (∀ p tmo, exec (.exchange p tmo) s = .next t → t.tmo = tmo ∧ t.el.toNat ≤ 100 * ((tmo.toNat + 99) / 100)) ∧
    (∀ a, exec (.getpos a) s = .next t → t.tmo = 15000#16 ∧ t.el.toNat ≤ 15000) ∧
    (exec .isconnected s = .next t → t.tmo = 2000#16 ∧ t.el.toNat ≤ 2000))

/-! ### The wire rows -/

/-- Log entry 4 (DESIGN CHOICE), with R183 and R264: a request row is the exchange of the packet as it stands, with 2000 ms for
the ping and 15000 ms for every other; here on a quiet line. -/
def Obligations.WireRequestsAreExchanged : Prop :=
  ∀ (s : State), Quiet s → (s.st = .closed ∨ s.st = .idle) →
    exec .wirePing s = .next (endedWith (afterXchg s pingRequest 2000#16) (.pkt (answerTo s pingRequest))) ∧
    exec .wireClearfaults s =
      .next (endedWith (afterXchg s (clearRequest s.cfg) 15000#16) (.pkt (answerTo s (clearRequest s.cfg)))) ∧
    ∀ (a : Axis) (c : Byte) (v : Word32) (i : Instr) (p : Packet),
      (i, p) ∈ [(Instr.wireSettrajabs a c, rowSettrajabs a c), (.wireAmpon a c, rowAmpon s.cfg a c),
        (.wireAmpoff a c, rowAmpoff a c), (.wireHome a c, rowHome s.cfg a c), (.wireStartmove a c, rowStartmove s.cfg a c),
        (.wireReadpos a c, rowReadpos a c), (.wireSetpos a c v, rowSetpos s.cfg a c v)] →
      exec i s = .next (endedWith (afterXchg s p 15000#16) (.pkt (answerTo s p)))

/-- Log entry 5 (DESIGN CHOICE), with R52 and R54: the ping response and a general packet arrive byte by byte at the tail of
`RXQ`; what a full queue cannot hold is discarded; nothing is received in `Closed`. -/
def Obligations.WirePacketsArrive : Prop :=
  ∀ (s : State) (i : Instr) (p : Packet),
    (i = .wirePingResponse ∧ p = ⟨0x00#8, 0x5B#8, 0x01#8, 0x00#8, [0x00#8, 0x00#8]⟩) ∨ i = .wireGeneric p →
    (s.st = .closed → exec i s = .next s) ∧
    (s.st ≠ .closed → s.cfg.rxDepth = none → exec i s = .next { s with rxq := s.rxq ++ wireBytes p }) ∧
    (∀ d, s.st ≠ .closed → s.cfg.rxDepth = some d → s.rxq.length ≤ d →
      exec i s = .next
        { s with
          rxq := (s.rxq ++ wireBytes p).take d
          diag := if d < (s.rxq ++ wireBytes p).length then s.diag ||| 0x40#8 else s.diag })

/-! ### The facade's sequences (43_facade_sequences.md) -/

/-- R232, R233, R234 on a quiet line: in `Idle` the requests are written in order, in `Closed` nothing is. -/
def Obligations.FacadeSequencesTransmit : Prop :=
  ∀ (s : State) (a : Axis) (v : Word32), Quiet s →
    (s.st = .idle → ∃ t, initAxis a s = .next t ∧ t.st = .idle ∧ t.txlog = s.txlog ++
      sent s.port (wireBytes (settrajabsPacket s.cfg a)) ++ sent s.port (wireBytes (amponPacket s.cfg a)) ++
      sent s.port (wireBytes (homePacket s.cfg a))) ∧
    (s.st = .idle → ∃ t, disableAxis a s = .next t ∧ t.st = .idle ∧
      t.txlog = s.txlog ++ sent s.port (wireBytes (ampoffPacket s.cfg a))) ∧
    (s.st = .idle → ∃ t, moveAxis a v s = .next t ∧ t.st = .idle ∧ t.txlog = s.txlog ++
      sent s.port (wireBytes (settrajabsPacket s.cfg a)) ++ sent s.port (wireBytes (setposPacket s.cfg a v)) ++
      sent s.port (wireBytes (startmovePacket s.cfg a))) ∧
    (s.st = .closed → ∃ t u w, initAxis a s = .next t ∧ disableAxis a s = .next u ∧ moveAxis a v s = .next w ∧
      t.txlog = s.txlog ∧ u.txlog = s.txlog ∧ w.txlog = s.txlog ∧
      t.diag = s.diag ||| 0x01#8 ∧ u.diag = s.diag ||| 0x01#8 ∧ w.diag = s.diag ||| 0x01#8)
end

