-- ==== Sys2Proof/Laws/State.lean ====
section
/-! SUPPORT. One lemma per field per update of the state, so that no later proof unfolds a record update. -/

namespace Sys2Proof.Machine

variable (s : State)

/-! ### `note` -/

@[simp] theorem note_st (b : DiagBit) : (s.note b).st = s.st := rfl
@[simp] theorem note_port (b : DiagBit) : (s.note b).port = s.port := rfl
@[simp] theorem note_ph (b : DiagBit) : (s.note b).ph = s.ph := rfl
@[simp] theorem note_tmo (b : DiagBit) : (s.note b).tmo = s.tmo := rfl
@[simp] theorem note_el (b : DiagBit) : (s.note b).el = s.el := rfl
@[simp] theorem note_lastpos (b : DiagBit) : (s.note b).lastpos = s.lastpos := rfl
@[simp] theorem note_diag (b : DiagBit) : (s.note b).diag = s.diag ||| b.mask := rfl
@[simp] theorem note_rxq (b : DiagBit) : (s.note b).rxq = s.rxq := rfl
@[simp] theorem note_txlog (b : DiagBit) : (s.note b).txlog = s.txlog := rfl
@[simp] theorem note_job (b : DiagBit) : (s.note b).job = s.job := rfl
@[simp] theorem note_result (b : DiagBit) : (s.note b).result = s.result := rfl
@[simp] theorem note_done (b : DiagBit) : (s.note b).done = s.done := rfl
@[simp] theorem note_cfg (b : DiagBit) : (s.note b).cfg = s.cfg := rfl
@[simp] theorem note_opens (b : DiagBit) : (s.note b).opens = s.opens := rfl
@[simp] theorem note_inputs (b : DiagBit) : (s.note b).inputs = s.inputs := rfl

/-! ### `setLastpos` -/

@[simp] theorem setLastpos_st (a : Axis) (v : Word32) : (s.setLastpos a v).st = s.st := rfl
@[simp] theorem setLastpos_port (a : Axis) (v : Word32) : (s.setLastpos a v).port = s.port := rfl
@[simp] theorem setLastpos_ph (a : Axis) (v : Word32) : (s.setLastpos a v).ph = s.ph := rfl
@[simp] theorem setLastpos_tmo (a : Axis) (v : Word32) : (s.setLastpos a v).tmo = s.tmo := rfl
@[simp] theorem setLastpos_el (a : Axis) (v : Word32) : (s.setLastpos a v).el = s.el := rfl
@[simp] theorem setLastpos_lastpos (a : Axis) (v : Word32) : (s.setLastpos a v).lastpos = s.lastpos.set a.toNat v a.isLt := rfl
@[simp] theorem setLastpos_diag (a : Axis) (v : Word32) : (s.setLastpos a v).diag = s.diag := rfl
@[simp] theorem setLastpos_rxq (a : Axis) (v : Word32) : (s.setLastpos a v).rxq = s.rxq := rfl
@[simp] theorem setLastpos_txlog (a : Axis) (v : Word32) : (s.setLastpos a v).txlog = s.txlog := rfl
@[simp] theorem setLastpos_job (a : Axis) (v : Word32) : (s.setLastpos a v).job = s.job := rfl
@[simp] theorem setLastpos_result (a : Axis) (v : Word32) : (s.setLastpos a v).result = s.result := rfl
@[simp] theorem setLastpos_done (a : Axis) (v : Word32) : (s.setLastpos a v).done = s.done := rfl
@[simp] theorem setLastpos_cfg (a : Axis) (v : Word32) : (s.setLastpos a v).cfg = s.cfg := rfl
@[simp] theorem setLastpos_opens (a : Axis) (v : Word32) : (s.setLastpos a v).opens = s.opens := rfl
@[simp] theorem setLastpos_inputs (a : Axis) (v : Word32) : (s.setLastpos a v).inputs = s.inputs := rfl

/-! ### `rxClear` -/

@[simp] theorem rxClear_st : (s.rxClear).st = s.st := rfl
@[simp] theorem rxClear_port : (s.rxClear).port = s.port := rfl
@[simp] theorem rxClear_ph : (s.rxClear).ph = s.ph := rfl
@[simp] theorem rxClear_tmo : (s.rxClear).tmo = s.tmo := rfl
@[simp] theorem rxClear_el : (s.rxClear).el = s.el := rfl
@[simp] theorem rxClear_lastpos : (s.rxClear).lastpos = s.lastpos := rfl
@[simp] theorem rxClear_diag : (s.rxClear).diag = s.diag := rfl
@[simp] theorem rxClear_rxq : (s.rxClear).rxq = [] := rfl
@[simp] theorem rxClear_txlog : (s.rxClear).txlog = s.txlog := rfl
@[simp] theorem rxClear_job : (s.rxClear).job = s.job := rfl
@[simp] theorem rxClear_result : (s.rxClear).result = s.result := rfl
@[simp] theorem rxClear_done : (s.rxClear).done = s.done := rfl
@[simp] theorem rxClear_cfg : (s.rxClear).cfg = s.cfg := rfl
@[simp] theorem rxClear_opens : (s.rxClear).opens = s.opens := rfl
@[simp] theorem rxClear_inputs : (s.rxClear).inputs = s.inputs := rfl

/-! ### `txWrite` -/

@[simp] theorem txWrite_st (bs : List Byte) : (s.txWrite bs).st = s.st := rfl
@[simp] theorem txWrite_port (bs : List Byte) : (s.txWrite bs).port = s.port := rfl
@[simp] theorem txWrite_ph (bs : List Byte) : (s.txWrite bs).ph = s.ph := rfl
@[simp] theorem txWrite_tmo (bs : List Byte) : (s.txWrite bs).tmo = s.tmo := rfl
@[simp] theorem txWrite_el (bs : List Byte) : (s.txWrite bs).el = s.el := rfl
@[simp] theorem txWrite_lastpos (bs : List Byte) : (s.txWrite bs).lastpos = s.lastpos := rfl
@[simp] theorem txWrite_diag (bs : List Byte) : (s.txWrite bs).diag = s.diag := rfl
@[simp] theorem txWrite_rxq (bs : List Byte) : (s.txWrite bs).rxq = s.rxq := rfl
@[simp] theorem txWrite_txlog (bs : List Byte) : (s.txWrite bs).txlog = s.txlog ++ bs.map (fun b => (s.port, b)) := rfl
@[simp] theorem txWrite_job (bs : List Byte) : (s.txWrite bs).job = s.job := rfl
@[simp] theorem txWrite_result (bs : List Byte) : (s.txWrite bs).result = s.result := rfl
@[simp] theorem txWrite_done (bs : List Byte) : (s.txWrite bs).done = s.done := rfl
@[simp] theorem txWrite_cfg (bs : List Byte) : (s.txWrite bs).cfg = s.cfg := rfl
@[simp] theorem txWrite_opens (bs : List Byte) : (s.txWrite bs).opens = s.opens := rfl
@[simp] theorem txWrite_inputs (bs : List Byte) : (s.txWrite bs).inputs = s.inputs := rfl

/-! ### `setSt` -/

@[simp] theorem setSt_st (x : SessionState) : (s.setSt x).st = x := rfl
@[simp] theorem setSt_port (x : SessionState) : (s.setSt x).port = s.port := rfl
@[simp] theorem setSt_ph (x : SessionState) : (s.setSt x).ph = s.ph := rfl
@[simp] theorem setSt_tmo (x : SessionState) : (s.setSt x).tmo = s.tmo := rfl
@[simp] theorem setSt_el (x : SessionState) : (s.setSt x).el = s.el := rfl
@[simp] theorem setSt_lastpos (x : SessionState) : (s.setSt x).lastpos = s.lastpos := rfl
@[simp] theorem setSt_diag (x : SessionState) : (s.setSt x).diag = s.diag := rfl
@[simp] theorem setSt_rxq (x : SessionState) : (s.setSt x).rxq = s.rxq := rfl
@[simp] theorem setSt_txlog (x : SessionState) : (s.setSt x).txlog = s.txlog := rfl
@[simp] theorem setSt_job (x : SessionState) : (s.setSt x).job = s.job := rfl
@[simp] theorem setSt_result (x : SessionState) : (s.setSt x).result = s.result := rfl
@[simp] theorem setSt_done (x : SessionState) : (s.setSt x).done = s.done := rfl
@[simp] theorem setSt_cfg (x : SessionState) : (s.setSt x).cfg = s.cfg := rfl
@[simp] theorem setSt_opens (x : SessionState) : (s.setSt x).opens = s.opens := rfl
@[simp] theorem setSt_inputs (x : SessionState) : (s.setSt x).inputs = s.inputs := rfl

/-! ### `openPort` -/

@[simp] theorem openPort_st (p : Nat) : (s.openPort p).st = .opening := rfl
@[simp] theorem openPort_port (p : Nat) : (s.openPort p).port = p := rfl
@[simp] theorem openPort_ph (p : Nat) : (s.openPort p).ph = s.ph := rfl
@[simp] theorem openPort_tmo (p : Nat) : (s.openPort p).tmo = s.tmo := rfl
@[simp] theorem openPort_el (p : Nat) : (s.openPort p).el = s.el := rfl
@[simp] theorem openPort_lastpos (p : Nat) : (s.openPort p).lastpos = s.lastpos := rfl
@[simp] theorem openPort_diag (p : Nat) : (s.openPort p).diag = s.diag := rfl
@[simp] theorem openPort_rxq (p : Nat) : (s.openPort p).rxq = [] := rfl
@[simp] theorem openPort_txlog (p : Nat) : (s.openPort p).txlog = s.txlog := rfl
@[simp] theorem openPort_job (p : Nat) : (s.openPort p).job = s.job := rfl
@[simp] theorem openPort_result (p : Nat) : (s.openPort p).result = s.result := rfl
@[simp] theorem openPort_done (p : Nat) : (s.openPort p).done = s.done := rfl
@[simp] theorem openPort_cfg (p : Nat) : (s.openPort p).cfg = s.cfg := rfl
@[simp] theorem openPort_opens (p : Nat) : (s.openPort p).opens = s.opens := rfl
@[simp] theorem openPort_inputs (p : Nat) : (s.openPort p).inputs = s.inputs := rfl

/-! ### `closePort` -/

@[simp] theorem closePort_st : (s.closePort).st = .closed := rfl
@[simp] theorem closePort_port : (s.closePort).port = s.port := rfl
@[simp] theorem closePort_ph : (s.closePort).ph = .ready := rfl
@[simp] theorem closePort_tmo : (s.closePort).tmo = s.tmo := rfl
@[simp] theorem closePort_el : (s.closePort).el = s.el := rfl
@[simp] theorem closePort_lastpos : (s.closePort).lastpos = s.lastpos := rfl
@[simp] theorem closePort_diag : (s.closePort).diag = s.diag := rfl
@[simp] theorem closePort_rxq : (s.closePort).rxq = [] := rfl
@[simp] theorem closePort_txlog : (s.closePort).txlog = s.txlog := rfl
@[simp] theorem closePort_job : (s.closePort).job = s.job := rfl
@[simp] theorem closePort_result : (s.closePort).result = s.result := rfl
@[simp] theorem closePort_done : (s.closePort).done = s.done := rfl
@[simp] theorem closePort_cfg : (s.closePort).cfg = s.cfg := rfl
@[simp] theorem closePort_opens : (s.closePort).opens = s.opens := rfl
@[simp] theorem closePort_inputs : (s.closePort).inputs = s.inputs := rfl

/-! ### `latchTimer` -/

@[simp] theorem latchTimer_st (t : BitVec 16) : (s.latchTimer t).st = s.st := rfl
@[simp] theorem latchTimer_port (t : BitVec 16) : (s.latchTimer t).port = s.port := rfl
@[simp] theorem latchTimer_ph (t : BitVec 16) : (s.latchTimer t).ph = .poll := rfl
@[simp] theorem latchTimer_tmo (t : BitVec 16) : (s.latchTimer t).tmo = t := rfl
@[simp] theorem latchTimer_el (t : BitVec 16) : (s.latchTimer t).el = 0#17 := rfl
@[simp] theorem latchTimer_lastpos (t : BitVec 16) : (s.latchTimer t).lastpos = s.lastpos := rfl
@[simp] theorem latchTimer_diag (t : BitVec 16) : (s.latchTimer t).diag = s.diag := rfl
@[simp] theorem latchTimer_rxq (t : BitVec 16) : (s.latchTimer t).rxq = s.rxq := rfl
@[simp] theorem latchTimer_txlog (t : BitVec 16) : (s.latchTimer t).txlog = s.txlog := rfl
@[simp] theorem latchTimer_job (t : BitVec 16) : (s.latchTimer t).job = s.job := rfl
@[simp] theorem latchTimer_result (t : BitVec 16) : (s.latchTimer t).result = s.result := rfl
@[simp] theorem latchTimer_done (t : BitVec 16) : (s.latchTimer t).done = s.done := rfl
@[simp] theorem latchTimer_cfg (t : BitVec 16) : (s.latchTimer t).cfg = s.cfg := rfl
@[simp] theorem latchTimer_opens (t : BitVec 16) : (s.latchTimer t).opens = s.opens := rfl
@[simp] theorem latchTimer_inputs (t : BitVec 16) : (s.latchTimer t).inputs = s.inputs := rfl

/-! ### `countTick` -/

@[simp] theorem countTick_st : (s.countTick).st = s.st := rfl
@[simp] theorem countTick_port : (s.countTick).port = s.port := rfl
@[simp] theorem countTick_ph : (s.countTick).ph = s.ph := rfl
@[simp] theorem countTick_tmo : (s.countTick).tmo = s.tmo := rfl
@[simp] theorem countTick_el : (s.countTick).el = s.el + 100#17 := rfl
@[simp] theorem countTick_lastpos : (s.countTick).lastpos = s.lastpos := rfl
@[simp] theorem countTick_diag : (s.countTick).diag = s.diag := rfl
@[simp] theorem countTick_rxq : (s.countTick).rxq = s.rxq := rfl
@[simp] theorem countTick_txlog : (s.countTick).txlog = s.txlog := rfl
@[simp] theorem countTick_job : (s.countTick).job = s.job := rfl
@[simp] theorem countTick_result : (s.countTick).result = s.result := rfl
@[simp] theorem countTick_done : (s.countTick).done = s.done := rfl
@[simp] theorem countTick_cfg : (s.countTick).cfg = s.cfg := rfl
@[simp] theorem countTick_opens : (s.countTick).opens = s.opens := rfl
@[simp] theorem countTick_inputs : (s.countTick).inputs = s.inputs := rfl

/-! ### `setReady` -/

@[simp] theorem setReady_st : (s.setReady).st = s.st := rfl
@[simp] theorem setReady_port : (s.setReady).port = s.port := rfl
@[simp] theorem setReady_ph : (s.setReady).ph = .ready := rfl
@[simp] theorem setReady_tmo : (s.setReady).tmo = s.tmo := rfl
@[simp] theorem setReady_el : (s.setReady).el = s.el := rfl
@[simp] theorem setReady_lastpos : (s.setReady).lastpos = s.lastpos := rfl
@[simp] theorem setReady_diag : (s.setReady).diag = s.diag := rfl
@[simp] theorem setReady_rxq : (s.setReady).rxq = s.rxq := rfl
@[simp] theorem setReady_txlog : (s.setReady).txlog = s.txlog := rfl
@[simp] theorem setReady_job : (s.setReady).job = s.job := rfl
@[simp] theorem setReady_result : (s.setReady).result = s.result := rfl
@[simp] theorem setReady_done : (s.setReady).done = s.done := rfl
@[simp] theorem setReady_cfg : (s.setReady).cfg = s.cfg := rfl
@[simp] theorem setReady_opens : (s.setReady).opens = s.opens := rfl
@[simp] theorem setReady_inputs : (s.setReady).inputs = s.inputs := rfl

/-! ### `accept` -/

@[simp] theorem accept_st : (s.accept).st = s.st := rfl
@[simp] theorem accept_port : (s.accept).port = s.port := rfl
@[simp] theorem accept_ph : (s.accept).ph = s.ph := rfl
@[simp] theorem accept_tmo : (s.accept).tmo = s.tmo := rfl
@[simp] theorem accept_el : (s.accept).el = s.el := rfl
@[simp] theorem accept_lastpos : (s.accept).lastpos = s.lastpos := rfl
@[simp] theorem accept_diag : (s.accept).diag = s.diag := rfl
@[simp] theorem accept_rxq : (s.accept).rxq = s.rxq := rfl
@[simp] theorem accept_txlog : (s.accept).txlog = s.txlog := rfl
@[simp] theorem accept_job : (s.accept).job = s.job := rfl
@[simp] theorem accept_result : (s.accept).result = none := rfl
@[simp] theorem accept_done : (s.accept).done = false := rfl
@[simp] theorem accept_cfg : (s.accept).cfg = s.cfg := rfl
@[simp] theorem accept_opens : (s.accept).opens = s.opens := rfl
@[simp] theorem accept_inputs : (s.accept).inputs = s.inputs := rfl

/-! ### `goto` -/

@[simp] theorem goto_st (j : Job) : (s.goto j).st = s.st := rfl
@[simp] theorem goto_port (j : Job) : (s.goto j).port = s.port := rfl
@[simp] theorem goto_ph (j : Job) : (s.goto j).ph = s.ph := rfl
@[simp] theorem goto_tmo (j : Job) : (s.goto j).tmo = s.tmo := rfl
@[simp] theorem goto_el (j : Job) : (s.goto j).el = s.el := rfl
@[simp] theorem goto_lastpos (j : Job) : (s.goto j).lastpos = s.lastpos := rfl
@[simp] theorem goto_diag (j : Job) : (s.goto j).diag = s.diag := rfl
@[simp] theorem goto_rxq (j : Job) : (s.goto j).rxq = s.rxq := rfl
@[simp] theorem goto_txlog (j : Job) : (s.goto j).txlog = s.txlog := rfl
@[simp] theorem goto_job (j : Job) : (s.goto j).job = some j := rfl
@[simp] theorem goto_result (j : Job) : (s.goto j).result = s.result := rfl
@[simp] theorem goto_done (j : Job) : (s.goto j).done = s.done := rfl
@[simp] theorem goto_cfg (j : Job) : (s.goto j).cfg = s.cfg := rfl
@[simp] theorem goto_opens (j : Job) : (s.goto j).opens = s.opens := rfl
@[simp] theorem goto_inputs (j : Job) : (s.goto j).inputs = s.inputs := rfl

/-! ### `finish` -/

@[simp] theorem finish_st (r : Result) : (s.finish r).st = s.st := rfl
@[simp] theorem finish_port (r : Result) : (s.finish r).port = s.port := rfl
@[simp] theorem finish_ph (r : Result) : (s.finish r).ph = s.ph := rfl
@[simp] theorem finish_tmo (r : Result) : (s.finish r).tmo = s.tmo := rfl
@[simp] theorem finish_el (r : Result) : (s.finish r).el = s.el := rfl
@[simp] theorem finish_lastpos (r : Result) : (s.finish r).lastpos = s.lastpos := rfl
@[simp] theorem finish_diag (r : Result) : (s.finish r).diag = s.diag := rfl
@[simp] theorem finish_rxq (r : Result) : (s.finish r).rxq = s.rxq := rfl
@[simp] theorem finish_txlog (r : Result) : (s.finish r).txlog = s.txlog := rfl
@[simp] theorem finish_job (r : Result) : (s.finish r).job = none := rfl
@[simp] theorem finish_result (r : Result) : (s.finish r).result = some r := rfl
@[simp] theorem finish_done (r : Result) : (s.finish r).done = true := rfl
@[simp] theorem finish_cfg (r : Result) : (s.finish r).cfg = s.cfg := rfl
@[simp] theorem finish_opens (r : Result) : (s.finish r).opens = s.opens := rfl
@[simp] theorem finish_inputs (r : Result) : (s.finish r).inputs = s.inputs := rfl

/-! ### `complete` -/

@[simp] theorem complete_st (v : Value) : (s.complete v).st = s.st := rfl
@[simp] theorem complete_port (v : Value) : (s.complete v).port = s.port := rfl
@[simp] theorem complete_ph (v : Value) : (s.complete v).ph = s.ph := rfl
@[simp] theorem complete_tmo (v : Value) : (s.complete v).tmo = s.tmo := rfl
@[simp] theorem complete_el (v : Value) : (s.complete v).el = s.el := rfl
@[simp] theorem complete_lastpos (v : Value) : (s.complete v).lastpos = s.lastpos := rfl
@[simp] theorem complete_diag (v : Value) : (s.complete v).diag = s.diag := rfl
@[simp] theorem complete_rxq (v : Value) : (s.complete v).rxq = s.rxq := rfl
@[simp] theorem complete_txlog (v : Value) : (s.complete v).txlog = s.txlog := rfl
@[simp] theorem complete_job (v : Value) : (s.complete v).job = none := rfl
@[simp] theorem complete_result (v : Value) : (s.complete v).result = some ⟨.ok, some v⟩ := rfl
@[simp] theorem complete_done (v : Value) : (s.complete v).done = true := rfl
@[simp] theorem complete_cfg (v : Value) : (s.complete v).cfg = s.cfg := rfl
@[simp] theorem complete_opens (v : Value) : (s.complete v).opens = s.opens := rfl
@[simp] theorem complete_inputs (v : Value) : (s.complete v).inputs = s.inputs := rfl

/-! ### `reject` -/

@[simp] theorem reject_st : (s.reject).st = s.st := rfl
@[simp] theorem reject_port : (s.reject).port = s.port := rfl
@[simp] theorem reject_ph : (s.reject).ph = s.ph := rfl
@[simp] theorem reject_tmo : (s.reject).tmo = s.tmo := rfl
@[simp] theorem reject_el : (s.reject).el = s.el := rfl
@[simp] theorem reject_lastpos : (s.reject).lastpos = s.lastpos := rfl
@[simp] theorem reject_diag : (s.reject).diag = s.diag := rfl
@[simp] theorem reject_rxq : (s.reject).rxq = s.rxq := rfl
@[simp] theorem reject_txlog : (s.reject).txlog = s.txlog := rfl
@[simp] theorem reject_job : (s.reject).job = none := rfl
@[simp] theorem reject_result : (s.reject).result = some ⟨.illegal, none⟩ := rfl
@[simp] theorem reject_done : (s.reject).done = true := rfl
@[simp] theorem reject_cfg : (s.reject).cfg = s.cfg := rfl
@[simp] theorem reject_opens : (s.reject).opens = s.opens := rfl
@[simp] theorem reject_inputs : (s.reject).inputs = s.inputs := rfl

/-! ### `lowerDone` -/

@[simp] theorem lowerDone_st : (s.lowerDone).st = s.st := rfl
@[simp] theorem lowerDone_port : (s.lowerDone).port = s.port := rfl
@[simp] theorem lowerDone_ph : (s.lowerDone).ph = s.ph := rfl
@[simp] theorem lowerDone_tmo : (s.lowerDone).tmo = s.tmo := rfl
@[simp] theorem lowerDone_el : (s.lowerDone).el = s.el := rfl
@[simp] theorem lowerDone_lastpos : (s.lowerDone).lastpos = s.lastpos := rfl
@[simp] theorem lowerDone_diag : (s.lowerDone).diag = s.diag := rfl
@[simp] theorem lowerDone_rxq : (s.lowerDone).rxq = s.rxq := rfl
@[simp] theorem lowerDone_txlog : (s.lowerDone).txlog = s.txlog := rfl
@[simp] theorem lowerDone_job : (s.lowerDone).job = s.job := rfl
@[simp] theorem lowerDone_result : (s.lowerDone).result = s.result := rfl
@[simp] theorem lowerDone_done : (s.lowerDone).done = false := rfl
@[simp] theorem lowerDone_cfg : (s.lowerDone).cfg = s.cfg := rfl
@[simp] theorem lowerDone_opens : (s.lowerDone).opens = s.opens := rfl
@[simp] theorem lowerDone_inputs : (s.lowerDone).inputs = s.inputs := rfl

/-! ### `doReset` -/

@[simp] theorem doReset_st : (s.doReset).st = .closed := rfl
@[simp] theorem doReset_port : (s.doReset).port = 0 := rfl
@[simp] theorem doReset_ph : (s.doReset).ph = .ready := rfl
@[simp] theorem doReset_tmo : (s.doReset).tmo = 0#16 := rfl
@[simp] theorem doReset_el : (s.doReset).el = 0#17 := rfl
@[simp] theorem doReset_lastpos : (s.doReset).lastpos = Vector.replicate 8 0#32 := rfl
@[simp] theorem doReset_diag : (s.doReset).diag = 0x00#8 := rfl
@[simp] theorem doReset_rxq : (s.doReset).rxq = [] := rfl
@[simp] theorem doReset_txlog : (s.doReset).txlog = [] := rfl
@[simp] theorem doReset_job : (s.doReset).job = none := rfl
@[simp] theorem doReset_result : (s.doReset).result = none := rfl
@[simp] theorem doReset_done : (s.doReset).done = false := rfl
@[simp] theorem doReset_cfg : (s.doReset).cfg = s.cfg := rfl
@[simp] theorem doReset_opens : (s.doReset).opens = s.opens := rfl
@[simp] theorem doReset_inputs : (s.doReset).inputs = s.inputs := rfl

/-! ### `arrive`: it writes `RXQ` and `DIAG` alone -/

@[simp] theorem arrive_st (b : Byte) : (s.arrive b).st = s.st := by
  unfold State.arrive; split <;> [rfl; (split <;> rfl); (split <;> rfl); (split <;> rfl)]
@[simp] theorem arrive_port (b : Byte) : (s.arrive b).port = s.port := by
  unfold State.arrive; split <;> [rfl; (split <;> rfl); (split <;> rfl); (split <;> rfl)]
@[simp] theorem arrive_ph (b : Byte) : (s.arrive b).ph = s.ph := by
  unfold State.arrive; split <;> [rfl; (split <;> rfl); (split <;> rfl); (split <;> rfl)]
@[simp] theorem arrive_tmo (b : Byte) : (s.arrive b).tmo = s.tmo := by
  unfold State.arrive; split <;> [rfl; (split <;> rfl); (split <;> rfl); (split <;> rfl)]
@[simp] theorem arrive_el (b : Byte) : (s.arrive b).el = s.el := by
  unfold State.arrive; split <;> [rfl; (split <;> rfl); (split <;> rfl); (split <;> rfl)]
@[simp] theorem arrive_lastpos (b : Byte) : (s.arrive b).lastpos = s.lastpos := by
  unfold State.arrive; split <;> [rfl; (split <;> rfl); (split <;> rfl); (split <;> rfl)]
@[simp] theorem arrive_txlog (b : Byte) : (s.arrive b).txlog = s.txlog := by
  unfold State.arrive; split <;> [rfl; (split <;> rfl); (split <;> rfl); (split <;> rfl)]
@[simp] theorem arrive_job (b : Byte) : (s.arrive b).job = s.job := by
  unfold State.arrive; split <;> [rfl; (split <;> rfl); (split <;> rfl); (split <;> rfl)]
@[simp] theorem arrive_result (b : Byte) : (s.arrive b).result = s.result := by
  unfold State.arrive; split <;> [rfl; (split <;> rfl); (split <;> rfl); (split <;> rfl)]
@[simp] theorem arrive_done (b : Byte) : (s.arrive b).done = s.done := by
  unfold State.arrive; split <;> [rfl; (split <;> rfl); (split <;> rfl); (split <;> rfl)]
@[simp] theorem arrive_cfg (b : Byte) : (s.arrive b).cfg = s.cfg := by
  unfold State.arrive; split <;> [rfl; (split <;> rfl); (split <;> rfl); (split <;> rfl)]
@[simp] theorem arrive_opens (b : Byte) : (s.arrive b).opens = s.opens := by
  unfold State.arrive; split <;> [rfl; (split <;> rfl); (split <;> rfl); (split <;> rfl)]
@[simp] theorem arrive_inputs (b : Byte) : (s.arrive b).inputs = s.inputs := by
  unfold State.arrive; split <;> [rfl; (split <;> rfl); (split <;> rfl); (split <;> rfl)]

/-! ### `arriveAll`: it writes `RXQ` and `DIAG` alone -/

@[simp] theorem arriveAll_st (bs : List Byte) : (s.arriveAll bs).st = s.st := by
  induction bs generalizing s with
  | nil => rfl
  | cons b bs ih => simp [State.arriveAll, ih]
@[simp] theorem arriveAll_port (bs : List Byte) : (s.arriveAll bs).port = s.port := by
  induction bs generalizing s with
  | nil => rfl
  | cons b bs ih => simp [State.arriveAll, ih]
@[simp] theorem arriveAll_ph (bs : List Byte) : (s.arriveAll bs).ph = s.ph := by
  induction bs generalizing s with
  | nil => rfl
  | cons b bs ih => simp [State.arriveAll, ih]
@[simp] theorem arriveAll_tmo (bs : List Byte) : (s.arriveAll bs).tmo = s.tmo := by
  induction bs generalizing s with
  | nil => rfl
  | cons b bs ih => simp [State.arriveAll, ih]
@[simp] theorem arriveAll_el (bs : List Byte) : (s.arriveAll bs).el = s.el := by
  induction bs generalizing s with
  | nil => rfl
  | cons b bs ih => simp [State.arriveAll, ih]
@[simp] theorem arriveAll_lastpos (bs : List Byte) : (s.arriveAll bs).lastpos = s.lastpos := by
  induction bs generalizing s with
  | nil => rfl
  | cons b bs ih => simp [State.arriveAll, ih]
@[simp] theorem arriveAll_txlog (bs : List Byte) : (s.arriveAll bs).txlog = s.txlog := by
  induction bs generalizing s with
  | nil => rfl
  | cons b bs ih => simp [State.arriveAll, ih]
@[simp] theorem arriveAll_job (bs : List Byte) : (s.arriveAll bs).job = s.job := by
  induction bs generalizing s with
  | nil => rfl
  | cons b bs ih => simp [State.arriveAll, ih]
@[simp] theorem arriveAll_result (bs : List Byte) : (s.arriveAll bs).result = s.result := by
  induction bs generalizing s with
  | nil => rfl
  | cons b bs ih => simp [State.arriveAll, ih]
@[simp] theorem arriveAll_done (bs : List Byte) : (s.arriveAll bs).done = s.done := by
  induction bs generalizing s with
  | nil => rfl
  | cons b bs ih => simp [State.arriveAll, ih]
@[simp] theorem arriveAll_cfg (bs : List Byte) : (s.arriveAll bs).cfg = s.cfg := by
  induction bs generalizing s with
  | nil => rfl
  | cons b bs ih => simp [State.arriveAll, ih]
@[simp] theorem arriveAll_opens (bs : List Byte) : (s.arriveAll bs).opens = s.opens := by
  induction bs generalizing s with
  | nil => rfl
  | cons b bs ih => simp [State.arriveAll, ih]
@[simp] theorem arriveAll_inputs (bs : List Byte) : (s.arriveAll bs).inputs = s.inputs := by
  induction bs generalizing s with
  | nil => rfl
  | cons b bs ih => simp [State.arriveAll, ih]

/-! ### `leaveOpening`: it writes `ST` alone -/

@[simp] theorem leaveOpening_port : (s.leaveOpening).port = s.port := by
  unfold State.leaveOpening; split <;> rfl
@[simp] theorem leaveOpening_ph : (s.leaveOpening).ph = s.ph := by
  unfold State.leaveOpening; split <;> rfl
@[simp] theorem leaveOpening_tmo : (s.leaveOpening).tmo = s.tmo := by
  unfold State.leaveOpening; split <;> rfl
@[simp] theorem leaveOpening_el : (s.leaveOpening).el = s.el := by
  unfold State.leaveOpening; split <;> rfl
@[simp] theorem leaveOpening_lastpos : (s.leaveOpening).lastpos = s.lastpos := by
  unfold State.leaveOpening; split <;> rfl
@[simp] theorem leaveOpening_diag : (s.leaveOpening).diag = s.diag := by
  unfold State.leaveOpening; split <;> rfl
@[simp] theorem leaveOpening_rxq : (s.leaveOpening).rxq = s.rxq := by
  unfold State.leaveOpening; split <;> rfl
@[simp] theorem leaveOpening_txlog : (s.leaveOpening).txlog = s.txlog := by
  unfold State.leaveOpening; split <;> rfl
@[simp] theorem leaveOpening_job : (s.leaveOpening).job = s.job := by
  unfold State.leaveOpening; split <;> rfl
@[simp] theorem leaveOpening_result : (s.leaveOpening).result = s.result := by
  unfold State.leaveOpening; split <;> rfl
@[simp] theorem leaveOpening_done : (s.leaveOpening).done = s.done := by
  unfold State.leaveOpening; split <;> rfl
@[simp] theorem leaveOpening_cfg : (s.leaveOpening).cfg = s.cfg := by
  unfold State.leaveOpening; split <;> rfl
@[simp] theorem leaveOpening_opens : (s.leaveOpening).opens = s.opens := by
  unfold State.leaveOpening; split <;> rfl
@[simp] theorem leaveOpening_inputs : (s.leaveOpening).inputs = s.inputs := by
  unfold State.leaveOpening; split <;> rfl

/-! ### `askOpen`: it uses up an answer of the environment and writes nothing else -/

@[simp] theorem askOpen_st (p : Nat) : (s.askOpen p).st = s.st := by
  unfold State.askOpen; split <;> rfl
@[simp] theorem askOpen_port (p : Nat) : (s.askOpen p).port = s.port := by
  unfold State.askOpen; split <;> rfl
@[simp] theorem askOpen_ph (p : Nat) : (s.askOpen p).ph = s.ph := by
  unfold State.askOpen; split <;> rfl
@[simp] theorem askOpen_tmo (p : Nat) : (s.askOpen p).tmo = s.tmo := by
  unfold State.askOpen; split <;> rfl
@[simp] theorem askOpen_el (p : Nat) : (s.askOpen p).el = s.el := by
  unfold State.askOpen; split <;> rfl
@[simp] theorem askOpen_lastpos (p : Nat) : (s.askOpen p).lastpos = s.lastpos := by
  unfold State.askOpen; split <;> rfl
@[simp] theorem askOpen_diag (p : Nat) : (s.askOpen p).diag = s.diag := by
  unfold State.askOpen; split <;> rfl
@[simp] theorem askOpen_rxq (p : Nat) : (s.askOpen p).rxq = s.rxq := by
  unfold State.askOpen; split <;> rfl
@[simp] theorem askOpen_txlog (p : Nat) : (s.askOpen p).txlog = s.txlog := by
  unfold State.askOpen; split <;> rfl
@[simp] theorem askOpen_job (p : Nat) : (s.askOpen p).job = s.job := by
  unfold State.askOpen; split <;> rfl
@[simp] theorem askOpen_result (p : Nat) : (s.askOpen p).result = s.result := by
  unfold State.askOpen; split <;> rfl
@[simp] theorem askOpen_done (p : Nat) : (s.askOpen p).done = s.done := by
  unfold State.askOpen; split <;> rfl
@[simp] theorem askOpen_cfg (p : Nat) : (s.askOpen p).cfg = s.cfg := by
  unfold State.askOpen; split <;> rfl
@[simp] theorem askOpen_inputs (p : Nat) : (s.askOpen p).inputs = s.inputs := by
  unfold State.askOpen; split <;> rfl

/-! ### `tickEvent`: it moves the line `wait` on and writes nothing else -/

@[simp] theorem tickEvent_st : (s.tickEvent).st = s.st := by
  unfold State.tickEvent; split <;> rfl
@[simp] theorem tickEvent_port : (s.tickEvent).port = s.port := by
  unfold State.tickEvent; split <;> rfl
@[simp] theorem tickEvent_ph : (s.tickEvent).ph = s.ph := by
  unfold State.tickEvent; split <;> rfl
@[simp] theorem tickEvent_tmo : (s.tickEvent).tmo = s.tmo := by
  unfold State.tickEvent; split <;> rfl
@[simp] theorem tickEvent_el : (s.tickEvent).el = s.el := by
  unfold State.tickEvent; split <;> rfl
@[simp] theorem tickEvent_lastpos : (s.tickEvent).lastpos = s.lastpos := by
  unfold State.tickEvent; split <;> rfl
@[simp] theorem tickEvent_diag : (s.tickEvent).diag = s.diag := by
  unfold State.tickEvent; split <;> rfl
@[simp] theorem tickEvent_rxq : (s.tickEvent).rxq = s.rxq := by
  unfold State.tickEvent; split <;> rfl
@[simp] theorem tickEvent_txlog : (s.tickEvent).txlog = s.txlog := by
  unfold State.tickEvent; split <;> rfl
@[simp] theorem tickEvent_result : (s.tickEvent).result = s.result := by
  unfold State.tickEvent; split <;> rfl
@[simp] theorem tickEvent_done : (s.tickEvent).done = s.done := by
  unfold State.tickEvent; split <;> rfl
@[simp] theorem tickEvent_cfg : (s.tickEvent).cfg = s.cfg := by
  unfold State.tickEvent; split <;> rfl
@[simp] theorem tickEvent_opens : (s.tickEvent).opens = s.opens := by
  unfold State.tickEvent; split <;> rfl
@[simp] theorem tickEvent_inputs : (s.tickEvent).inputs = s.inputs := by
  unfold State.tickEvent; split <;> rfl

end Sys2Proof.Machine
end

