-- ==== Sys2Proof/Laws/Ops.lean ====
section
/-! SUPPORT. One lemma for each thing a shared operation can do (Machine/Ops.lean, Flags.lean, Operands.lean). -/

namespace Sys2Proof.Machine

variable (s : State)

/-! ### The widths of the ports -/

/-- R33: with `RX_DEPTH` unbounded every byte sequence fits. -/
@[simp] theorem bytesFit_unbounded (cfg : Config) (bs : List Byte) (h : cfg.rxDepth = none) : bytesFit cfg bs = true := by
  simp [bytesFit, h]

/-- R33: what fits, for either kind of `RX_DEPTH`. -/
theorem bytesFit_iff (cfg : Config) (bs : List Byte) :
    bytesFit cfg bs = true ↔ ∀ d, cfg.rxDepth = some d → bs.length ≤ d := by
  cases h : cfg.rxDepth <;> simp [bytesFit, h]

/-- R33: a packet the command port carries fits the result port too (`RX_DEPTH` is at least 514). -/
theorem bytesFit_of_fitsPort (cfg : Config) (p : Packet) (hw : cfg.wf = true) (h : p.fitsPort = true) :
    bytesFit cfg (bytesOf p) = true := by
  have h : p.payload.length ≤ 510 := of_decide_eq_true h
  refine (bytesFit_iff _ _).2 fun d hd => ?_
  simp [Config.wf, hd] at hw
  simp [bytesOf]
  omega

/-- R33: the packet of bytes that fit, which `DECODE` and an exchange return, fits the result port. -/
theorem bytesFit_packetOf (cfg : Config) (bs : List Byte) (hw : cfg.wf = true) (h : bytesFit cfg bs = true) :
    bytesFit cfg (bytesOf (packetOf bs)) = true := by
  refine (bytesFit_iff _ _).2 fun d hd => ?_
  have hl := (bytesFit_iff _ _).1 h d hd
  simp [Config.wf, hd] at hw
  unfold packetOf
  split
  · simpa [bytesOf] using hl
  · simp [bytesOf, Packet.zero]
    omega

/-! ### The handshake -/

theorem busy_eq_false_iff : s.busy = false ↔ s.job = none := by
  cases h : s.job <;> simp [State.busy, h]

theorem issue_ready (f : State → State) (h : s.busy = false) : s.issue f = .next (f s.accept) := by
  simp [State.issue, h]

theorem issue_busy (f : State → State) (h : s.busy = true) : s.issue f = .next s := by
  simp [State.issue, h]

/-- A command that ends in the step it starts in changes the result port alone. -/
theorem accept_complete (h : s.busy = false) (v : Value) :
    s.accept.complete v = { s with result := some ⟨.ok, some v⟩, done := true } := by
  rw [busy_eq_false_iff] at h
  simp [State.accept, State.complete, State.finish, h]

/-! ### Flags -/

@[simp] theorem note_diagBit_self (b : DiagBit) : (s.note b).diagBit b = true := by
  cases b <;> simp [State.diagBit, State.note, DiagBit.mask, DiagBit.index]

theorem note_keeps_bits (b : DiagBit) : s.diag ||| (s.note b).diag = (s.note b).diag := by
  simp [← BitVec.or_assoc]

/-! ### The receive queue -/

theorem rxFull_unbounded (h : s.cfg.rxDepth = none) : s.rxFull = false := by
  simp [State.rxFull, h]

theorem rxFull_bounded (d : Nat) (h : s.cfg.rxDepth = some d) : s.rxFull = decide (d ≤ s.rxq.length) := by
  simp [State.rxFull, h]

theorem arrive_closed (b : Byte) (h : s.st = .closed) : s.arrive b = s := by
  simp [State.arrive, h]

theorem arrive_full (b : Byte) (h : s.st ≠ .closed) (hf : s.rxFull = true) : s.arrive b = s.note .rxovr := by
  unfold State.arrive
  split <;> simp_all

theorem arrive_room (b : Byte) (h : s.st ≠ .closed) (hf : s.rxFull = false) :
    s.arrive b = { s with rxq := s.rxq ++ [b] } := by
  unfold State.arrive
  split <;> simp_all

theorem arriveAll_closed (bs : List Byte) (h : s.st = .closed) : s.arriveAll bs = s := by
  induction bs with
  | nil => rfl
  | cons b bs ih => rw [State.arriveAll, arrive_closed s b h, ih]

theorem arriveAll_append (bs cs : List Byte) : s.arriveAll (bs ++ cs) = (s.arriveAll bs).arriveAll cs := by
  induction bs generalizing s with
  | nil => rfl
  | cons b bs ih => exact ih _

theorem arriveAll_unbounded (bs : List Byte) (h : s.st ≠ .closed) (hd : s.cfg.rxDepth = none) :
    s.arriveAll bs = { s with rxq := s.rxq ++ bs } := by
  induction bs generalizing s with
  | nil => simp [State.arriveAll]
  | cons b bs ih =>
    rw [State.arriveAll, arrive_room s b h (rxFull_unbounded s hd), ih _ (by exact h) (by exact hd)]
    simp

/-! ### The ports and the session state -/

theorem leaveOpening_opening (h : s.st = .opening) : s.leaveOpening = s.setSt .probing := by
  simp [State.leaveOpening, h]

theorem leaveOpening_other (h : s.st ≠ .opening) : s.leaveOpening = s := by
  unfold State.leaveOpening
  split <;> simp_all

theorem askOpen_below (p : Nat) (h : p < s.cfg.nPorts) : s.askOpen p = { s with opens := s.opens.tail } := by
  simp [State.askOpen, h]

theorem askOpen_beyond (p : Nat) (h : s.cfg.nPorts ≤ p) : s.askOpen p = s := by
  simp [State.askOpen, Nat.not_lt.mpr h]

theorem openOk_iff (p : Nat) : s.openOk p = true ↔ p < s.cfg.nPorts ∧ ∃ more, s.opens = true :: more := by
  cases h : s.opens with
  | nil => simp [State.openOk, h]
  | cons b more => cases b <;> simp [State.openOk, h]

/-! ### The exchange engine and the position file -/

theorem timedOut_iff : s.timedOut = true ↔ s.tmo.toNat ≤ s.el.toNat := by
  simp [State.timedOut]

@[simp] theorem setLastpos_lastposAt_self (a : Axis) (v : Word32) : (s.setLastpos a v).lastposAt a = v := by
  simp [State.lastposAt, State.setLastpos]

theorem setLastpos_lastposAt_other (a b : Axis) (v : Word32) (h : b ≠ a) :
    (s.setLastpos a v).lastposAt b = s.lastposAt b := by
  have hab : a.toNat ≠ b.toNat := fun e => h (BitVec.eq_of_toNat_eq e.symm)
  simp [State.lastposAt, State.setLastpos, hab]

/-! ### Packets -/

@[simp] theorem length_bytesOf (p : Packet) : (bytesOf p).length = p.payload.length + 4 := by
  simp [bytesOf]

theorem packetOf_short (bs : List Byte) (h : bs.length < 4) : packetOf bs = Packet.zero := by
  match bs, h with
  | [], _ => rfl
  | [_], _ => rfl
  | [_, _], _ => rfl
  | [_, _, _], _ => rfl

@[simp] theorem packetOf_four (node checksum dataSize opcode : Byte) (payload : List Byte) :
    packetOf (node :: checksum :: dataSize :: opcode :: payload) = ⟨node, checksum, dataSize, opcode, payload⟩ := rfl

theorem xorAll_append (bs cs : List Byte) : xorAll (bs ++ cs) = xorAll bs ^^^ xorAll cs := by
  induction bs with
  | nil => simp [xorAll]
  | cons b bs ih => simp [xorAll, ih, BitVec.xor_assoc]

theorem pingPacket_eq : pingPacket = ⟨0x00#8, 0x5D#8, 0x00#8, 0x07#8, []⟩ := by decide

theorem sigPacket_eq : sigPacket = ⟨0x00#8, 0x5B#8, 0x01#8, 0x00#8, [0x00#8, 0x00#8]⟩ := by decide

end Sys2Proof.Machine
end

