-- ==== Sys2Proof/Laws/Block.lean ====
section
/-! SUPPORT. What the block and the agents around it do in one cycle, in the run of a command, and in one step
(Machine/Lines.lean, Block.lean, Step.lean). -/

namespace Sys2Proof.Machine

variable (s : State)

/-! ### One line -/

theorem blockLine_none (h : s.job = none) : s.blockLine = s := by
  simp [State.blockLine, h]

theorem blockLine_xchg (k : XchgCaller) (l : XchgLine) (h : s.job = some (.xchg k l)) :
    s.blockLine = xchgLine k l s := by
  simp [State.blockLine, h]

theorem blockLine_probe (c : ProbeCaller) (l : ProbeLine) (h : s.job = some (.probe c l)) :
    s.blockLine = probeLine c l s := by
  simp [State.blockLine, h]

theorem blockLine_getpos (a : Axis) (l : GetposLine) (h : s.job = some (.getpos a l)) :
    s.blockLine = getposLine a l s := by
  simp [State.blockLine, h]

theorem blockLine_connect (rest : List Nat) (l : ConnectLine) (h : s.job = some (.connect rest l)) :
    s.blockLine = connectLine rest l s := by
  simp [State.blockLine, h]

theorem tickEvent_waiting (k : XchgCaller) (h : s.job = some (.xchg k .wait)) :
    s.tickEvent = s.goto (.xchg k .count) := by
  simp [State.tickEvent, h]

theorem tickEvent_other (h : ∀ k, s.job ≠ some (.xchg k .wait)) : s.tickEvent = s := by
  unfold State.tickEvent
  split
  · exact absurd ‹_› (h _)
  · rfl

theorem turn_waiting (k : XchgCaller) (h : s.job = some (.xchg k .wait)) : s.turn = s.goto (.xchg k .count) := by
  simp [State.turn, State.tickEvent, h]

theorem turn_other (h : ∀ k, s.job ≠ some (.xchg k .wait)) : s.turn = s.blockLine := by
  unfold State.turn
  split
  · exact absurd ‹_› (h _)
  · rfl

/-! ### One cycle -/

theorem cycle_quiet (h : s.inputs = []) : s.cycle = s.turn := by
  simp [State.cycle, h]

theorem cycle_rx (b : Byte) (ins : List Input) (h : s.inputs = .rx b :: ins) :
    s.cycle = { s with inputs := ins }.arrive b := by
  simp [State.cycle, h]

theorem cycle_tick (ins : List Input) (h : s.inputs = .tick :: ins) : s.cycle = { s with inputs := ins }.tickEvent := by
  simp [State.cycle, h]

theorem cycle_go (ins : List Input) (h : s.inputs = .go :: ins) : s.cycle = { s with inputs := ins }.blockLine := by
  simp [State.cycle, h]

theorem cycle_await (ins : List Input) (h : s.inputs = .await :: ins) :
    s.cycle = if s.turn.busy then s.turn else { s.turn with inputs := ins } := by
  simp [State.cycle, h]

theorem cycle_reset (ins : List Input) (h : s.inputs = .reset :: ins) :
    s.cycle = State.resetWith s.cfg s.opens ins := by
  simp [State.cycle, h, State.doReset]

theorem cycle_cmd (code : Byte) (args : Args) (ins : List Input) (h : s.inputs = .word (.cmd code args) :: ins) :
    s.cycle = { s with inputs := ins } := by
  simp [State.cycle, h, receivedBytes, State.arriveAll]

/-! ### The run of a command -/

theorem runFor_ended (n : Nat) (h : s.busy = false) : s.runFor n = s := by
  cases n <;> simp [State.runFor, h]

theorem runFor_look (n : Nat) (ins : List Input) (h : s.busy = true) (hi : s.inputs = .look :: ins) :
    s.runFor (n + 1) = { s with inputs := ins } := by
  simp [State.runFor, h, hi]

theorem runFor_cycle (n : Nat) (h : s.busy = true) (hi : ∀ ins, s.inputs ≠ .look :: ins) :
    s.runFor (n + 1) = s.cycle.runFor n := by
  rw [State.runFor, if_pos h]
  split
  · exact absurd ‹_› (hi _)
  · rfl

/-- A property that holds at the start of a run and that every cycle and every look keep holds at its end. -/
theorem runFor_induction (P : State → Prop) (hc : ∀ s, P s → s.busy = true → P s.cycle)
    (hl : ∀ s ins, P s → s.inputs = .look :: ins → P { s with inputs := ins }) (n : Nat) (h : P s) : P (s.runFor n) := by
  induction n generalizing s with
  | zero => exact h
  | succ n ih =>
    unfold State.runFor
    split
    · split
      · exact hl _ _ h ‹_›
      · exact ih _ (hc _ h ‹_›)
    · exact h

/-- Once a run has ended its command, more cycles change nothing. -/
theorem runFor_enough (n k : Nat) (h : (s.runFor n).busy = false) : s.runFor (n + k) = s.runFor n := by
  induction n generalizing s with
  | zero => simpa [State.runFor] using runFor_ended s k h
  | succ n ih =>
    rw [Nat.succ_add]
    by_cases hb : s.busy = true
    · by_cases hi : ∃ ins, s.inputs = .look :: ins
      · obtain ⟨ins, hi⟩ := hi
        rw [runFor_look s _ ins hb hi, runFor_look s _ ins hb hi]
      · have hi' : ∀ ins, s.inputs ≠ .look :: ins := fun ins e => hi ⟨ins, e⟩
        rw [runFor_cycle s _ hb hi'] at h ⊢
        rw [runFor_cycle s _ hb hi', ih _ h]
    · have hb' : s.busy = false := by simpa using hb
      rw [runFor_ended s _ hb', runFor_ended s _ hb']

/-! ### Waiting -/

theorem ticksWaited_ended (n : Nat) (h : s.busy = false) : ticksWaited n s = 0 := by
  cases n <;> simp [ticksWaited, h]

theorem ticksWaited_cycle (n : Nat) (h : s.busy = true) :
    ticksWaited (n + 1) s = (if tickTaken s then 1 else 0) + ticksWaited n s.cycle := by
  simp [ticksWaited, h]

/-- Only an exchange that waits takes a tick. -/
theorem tickTaken_waiting (h : tickTaken s = true) :
    (∃ k, s.job = some (.xchg k .wait)) ∧ ∃ k, s.cycle.job = some (.xchg k .count) := by
  unfold tickTaken at h
  split at h
  · exact ⟨⟨_, ‹_›⟩, ⟨_, ‹_›⟩⟩
  · simp at h

/-! ### One step -/

theorem step_busy (h : s.busy = true) : step s = .next s.lowerDone.resume := by
  simp [step, h]

theorem step_nothing (h : s.busy = false) (hi : s.inputs = []) : step s = .next s.lowerDone := by
  simp [step, h, hi]

theorem step_event (e : Input) (ins : List Input) (h : s.busy = false) (hi : s.inputs = e :: ins) (he : ∀ w, e ≠ .word w) :
    step s = .next ({ s.lowerDone with inputs := ins }.idleEvent e) := by
  cases e <;> simp_all [step]

end Sys2Proof.Machine
end

