-- ==== Sys2Proof/Laws/PerInstr.lean ====
section
/-! SUPPORT. A statement about every instruction as syntax: with the parameters at their defaults, its word carries the fixed
bits of its row of opcode_table.json. The rows are written out from the table, apart from the encoder. -/

namespace Sys2Proof.Laws.TableRow

/-- A row's selecting bits: the match of a HOSTCMD row under the mask `0xFF`; "any value not matched by another HOSTCMD row";
mask and match of each byte of a wire row; or any packet. -/
inductive Row where
  | command (code : Byte)
  | anyOtherCode
  | packet (bits : List (Byte × Byte))
  | anyPacket

/-- opcode_table.json. -/
def rowOf (i : Instr) : Row :=
  match i with
  | .encode _ => .command 0x01#8
  | .decode _ => .command 0x02#8
  | .chkvalid _ => .command 0x03#8
  | .sealPkt _ => .command 0x04#8
  | .packvid _ _ => .command 0x05#8
  | .unpackvid _ => .command 0x06#8
  | .i32tow _ => .command 0x07#8
  | .wtoi32 _ => .command 0x08#8
  | .ping => .command 0x10#8
  | .clearfaults => .command 0x11#8
  | .settrajabs _ => .command 0x12#8
  | .ampon _ => .command 0x13#8
  | .ampoff _ => .command 0x14#8
  | .home _ => .command 0x15#8
  | .startmove _ => .command 0x16#8
  | .readpos _ => .command 0x17#8
  | .setpos _ _ => .command 0x18#8
  | .connect _ _ => .command 0x20#8
  | .disconnect => .command 0x21#8
  | .isconnected => .command 0x22#8
  | .exchange _ _ => .command 0x23#8
  | .getpos _ => .command 0x24#8
  | .reserved _ => .anyOtherCode
  | .wirePing => .packet
      [(0b11111111#8, 0b00000000#8), (0b11111111#8, 0b01011101#8), (0b11111111#8, 0b00000000#8), (0b11111111#8, 0b00000111#8)]
  | .wireClearfaults => .packet
      [(0b11111111#8, 0b00000000#8), (0b11111111#8, 0b11110101#8), (0b11111111#8, 0b00000011#8), (0b11111111#8, 0b00001101#8),
        (0b11111111#8, 0b00000000#8), (0b11111111#8, 0b10100001#8), (0b11111111#8, 0b11111111#8), (0b11111111#8, 0b11111111#8),
        (0b11111111#8, 0b11111111#8), (0b11111111#8, 0b11111111#8)]
  | .wireSettrajabs _ _ => .packet
      [(0b11111000#8, 0b00000000#8), (0b00000000#8, 0b00000000#8), (0b11111111#8, 0b00000010#8), (0b11111111#8, 0b00001101#8),
        (0b00011111#8, 0b00000000#8), (0b11111111#8, 0b11001000#8), (0b11111111#8, 0b00000000#8), (0b11111111#8, 0b00000000#8)]
  | .wireAmpon _ _ => .packet
      [(0b11111000#8, 0b00000000#8), (0b00000000#8, 0b00000000#8), (0b11111111#8, 0b00000010#8), (0b11111111#8, 0b00001101#8),
        (0b00011111#8, 0b00000000#8), (0b11111111#8, 0b00100100#8), (0b11111111#8, 0b00010101#8), (0b11111111#8, 0b00000000#8)]
  | .wireAmpoff _ _ => .packet
      [(0b11111000#8, 0b00000000#8), (0b00000000#8, 0b00000000#8), (0b11111111#8, 0b00000010#8), (0b11111111#8, 0b00001101#8),
        (0b00011111#8, 0b00000000#8), (0b11111111#8, 0b00100100#8), (0b11111111#8, 0b00000000#8), (0b11111111#8, 0b00000000#8)]
  | .wireHome _ _ => .packet
      [(0b11111000#8, 0b00000000#8), (0b00000000#8, 0b00000000#8), (0b11111111#8, 0b00000000#8), (0b11111111#8, 0b00010001#8)]
  | .wireStartmove _ _ => .packet
      [(0b11111000#8, 0b00000000#8), (0b00000000#8, 0b00000000#8), (0b11111111#8, 0b00000000#8), (0b11111111#8, 0b00010001#8)]
  | .wireReadpos _ _ => .packet
      [(0b11111000#8, 0b00000000#8), (0b00000000#8, 0b00000000#8), (0b11111111#8, 0b00000001#8), (0b11111111#8, 0b00001100#8),
        (0b00011111#8, 0b00000000#8), (0b11111111#8, 0b00010111#8)]
  | .wireSetpos _ _ _ => .packet
      [(0b11111000#8, 0b00000000#8), (0b00000000#8, 0b00000000#8), (0b11111111#8, 0b00000011#8), (0b11111111#8, 0b00001101#8),
        (0b00011111#8, 0b00000000#8), (0b11111111#8, 0b11001010#8), (0b00000000#8, 0b00000000#8), (0b00000000#8, 0b00000000#8),
        (0b00000000#8, 0b00000000#8), (0b00000000#8, 0b00000000#8)]
  | .wirePingResponse => .packet
      [(0b11111111#8, 0b00000000#8), (0b11111111#8, 0b01011011#8), (0b11111111#8, 0b00000001#8), (0b11111111#8, 0b00000000#8),
        (0b11111111#8, 0b00000000#8), (0b11111111#8, 0b00000000#8)]
  | .wireGeneric _ => .anyPacket

/-- Every byte has its row's fixed bits. -/
def fits : List (Byte × Byte) → List Byte → Bool
  | [], [] => true
  | (mask, value) :: row, b :: bs => (b &&& mask == value) && fits row bs
  | _, _ => false

/-- The word is of the row. -/
def Row.selects (r : Row) (w : PortWord) : Bool :=
  match r, w with
  | .command code, .cmd c _ => c == code
  | .anyOtherCode, .cmd c _ => !commandCodes.contains c
  | .packet bits, .wire bytes => fits bits bytes
  | .anyPacket, .wire bytes => decide (4 ≤ bytes.length)
  | _, _ => false

/-- The word of a well-formed instruction is of its table row. -/
def Statement (i : Instr) : Prop :=
  (∀ code, i = .reserved code → WellFormed Config.default i = true) → (rowOf i).selects (Sys2Proof.encode Config.default i) = true

/-- A node byte `00000aaa` has its five fixed bits. -/
theorem node_bits (a : Axis) : ((0b00000#5 ++ a : Byte) &&& 0b11111000#8) = 0b00000000#8 := by revert a; decide

/-- An identifier word's high byte `aaa00000` has its five fixed bits. -/
theorem vid_bits (a : Axis) : ((a ++ 0b00000#5 : Byte) &&& 0b00011111#8) = 0b00000000#8 := by revert a; decide

theorem encode (p : Packet) : Statement (.encode p) := fun _ => rfl

theorem decode (bs : List Byte) : Statement (.decode bs) := fun _ => rfl

theorem chkvalid (p : Packet) : Statement (.chkvalid p) := fun _ => rfl

theorem sealPkt (p : Packet) : Statement (.sealPkt p) := fun _ => rfl

theorem packvid (a : Axis) (n : VarNum) : Statement (.packvid a n) := fun _ => rfl

theorem unpackvid (w : Bytes2) : Statement (.unpackvid w) := fun _ => rfl

theorem i32tow (v : Word32) : Statement (.i32tow v) := fun _ => rfl

theorem wtoi32 (w : Bytes4) : Statement (.wtoi32 w) := fun _ => rfl

theorem ping : Statement .ping := fun _ => rfl

theorem clearfaults : Statement .clearfaults := fun _ => rfl

theorem settrajabs (a : Axis) : Statement (.settrajabs a) := fun _ => rfl

theorem ampon (a : Axis) : Statement (.ampon a) := fun _ => rfl

theorem ampoff (a : Axis) : Statement (.ampoff a) := fun _ => rfl

theorem home (a : Axis) : Statement (.home a) := fun _ => rfl

theorem startmove (a : Axis) : Statement (.startmove a) := fun _ => rfl

theorem readpos (a : Axis) : Statement (.readpos a) := fun _ => rfl

theorem setpos (a : Axis) (v : Word32) : Statement (.setpos a v) := fun _ => rfl

theorem connect (auto : Bool) (port : Nat) : Statement (.connect auto port) := fun _ => rfl

theorem disconnect : Statement .disconnect := fun _ => rfl

theorem isconnected : Statement .isconnected := fun _ => rfl

theorem exchange (p : Packet) (tmo : BitVec 16) : Statement (.exchange p tmo) := fun _ => rfl

theorem getpos (a : Axis) : Statement (.getpos a) := fun _ => rfl

theorem reserved (code : Byte) : Statement (.reserved code) := fun h => h code rfl

theorem wirePing : Statement .wirePing := fun _ => by decide

theorem wireClearfaults : Statement .wireClearfaults := fun _ => by decide

theorem wireSettrajabs (a : Axis) (c : Byte) : Statement (.wireSettrajabs a c) := fun _ => by
  simp [rowOf, Row.selects, Sys2Proof.encode, wireOf, rowSettrajabs, fits, node_bits, vid_bits]

theorem wireAmpon (a : Axis) (c : Byte) : Statement (.wireAmpon a c) := fun _ => by
  simp [rowOf, Row.selects, Sys2Proof.encode, wireOf, rowAmpon, Config.default, fits, node_bits, vid_bits]

theorem wireAmpoff (a : Axis) (c : Byte) : Statement (.wireAmpoff a c) := fun _ => by
  simp [rowOf, Row.selects, Sys2Proof.encode, wireOf, rowAmpoff, fits, node_bits, vid_bits]

theorem wireHome (a : Axis) (c : Byte) : Statement (.wireHome a c) := fun _ => by
  simp [rowOf, Row.selects, Sys2Proof.encode, wireOf, rowHome, Config.default, fits, node_bits]

theorem wireStartmove (a : Axis) (c : Byte) : Statement (.wireStartmove a c) := fun _ => by
  simp [rowOf, Row.selects, Sys2Proof.encode, wireOf, rowStartmove, Config.default, fits, node_bits]

theorem wireReadpos (a : Axis) (c : Byte) : Statement (.wireReadpos a c) := fun _ => by
  simp [rowOf, Row.selects, Sys2Proof.encode, wireOf, rowReadpos, fits, node_bits, vid_bits]

theorem wireSetpos (a : Axis) (c : Byte) (v : Word32) : Statement (.wireSetpos a c v) := fun _ => by
  simp [rowOf, Row.selects, Sys2Proof.encode, wireOf, rowSetpos, Config.default, fits, node_bits, vid_bits]

theorem wirePingResponse : Statement .wirePingResponse := fun _ => by decide

theorem wireGeneric (p : Packet) : Statement (.wireGeneric p) := fun _ => by
  simp [rowOf, Row.selects, Sys2Proof.encode, wireOf]

end Sys2Proof.Laws.TableRow
end

