-- ==== Sys2Proof/Tests/Slice0.lean ====
section
/-! SUPPORT. The model's own tests. Expected results are the spec's: the bit patterns of opcode_table.json and the worked
examples and vectors of 95_test_vectors.md (E1 to E9, T1 to T16, section 2). Then, for each obligation with hypotheses, a state
and operands that meet them (`witness_…`). -/

namespace Sys2Proof.Tests

open Sys2Proof Sys2Proof.Machine

/-- The next state, if there is one. -/
def after (o : Host.Outcome State Fault Refusal) : Option State :=
  match o with
  | .next t => some t
  | .fault _ => none
  | .refused _ => none

/-- The value on the result port after a step. -/
def valueOf (o : Host.Outcome State Fault Refusal) : Option Value := (after o).bind fun t => t.result.bind (·.value)

/-- `Idle` on port 0 with these bytes in `RXQ`, the parameters at their defaults, nothing outside. -/
def idleWith (rx : List Byte) : State := { State.reset with st := .idle, rxq := rx }

/-- The same with `INT_WIRE_ORDER = MSB_FIRST` and `TRAJ_SUBCMD = PAYLOAD_WORD`. -/
def otherParams (s : State) : State :=
  { s with cfg := ⟨.msbFirst, .payloadWord, .sourceBug, 3, some 514⟩ }

/-- The argument fields with an axis. -/
def onAxis (a : Axis) : Args := { Args.zero with axis := a }

/-! ### Decoding: words written out bit by bit from opcode_table.json -/

theorem test_decode_encode : decode Config.default (.cmd 0b00000001#8 { Args.zero with pkt := ⟨1#8, 2#8, 3#8, 4#8, [5#8]⟩ }) =
    .ok (.encode ⟨1#8, 2#8, 3#8, 4#8, [5#8]⟩) := by rfl
theorem test_decode_decode : decode Config.default (.cmd 0b00000010#8 { Args.zero with bytes := [1#8] }) = .ok (.decode [1#8]) := by rfl
theorem test_decode_chkvalid : decode Config.default (.cmd 0b00000011#8 Args.zero) = .ok (.chkvalid Packet.zero) := by rfl
theorem test_decode_seal : decode Config.default (.cmd 0b00000100#8 Args.zero) = .ok (.sealPkt Packet.zero) := by rfl
theorem test_decode_packvid : decode Config.default (.cmd 0b00000101#8 { Args.zero with axis := 1#3, varnum := 0x17#9 }) =
    .ok (.packvid 1#3 0x17#9) := by rfl
theorem test_decode_unpackvid : decode Config.default (.cmd 0b00000110#8 { Args.zero with b2 := ⟨0x20#8, 0x17#8⟩ }) =
    .ok (.unpackvid ⟨0x20#8, 0x17#8⟩) := by rfl
theorem test_decode_i32tow : decode Config.default (.cmd 0b00000111#8 { Args.zero with pos := 7#32 }) = .ok (.i32tow 7#32) := by rfl
theorem test_decode_wtoi32 : decode Config.default (.cmd 0b00001000#8 { Args.zero with b4 := ⟨1#8, 2#8, 3#8, 4#8⟩ }) =
    .ok (.wtoi32 ⟨1#8, 2#8, 3#8, 4#8⟩) := by rfl
theorem test_decode_ping : decode Config.default (.cmd 0b00010000#8 Args.zero) = .ok .ping := by rfl
theorem test_decode_clearfaults : decode Config.default (.cmd 0b00010001#8 Args.zero) = .ok .clearfaults := by rfl
theorem test_decode_settrajabs : decode Config.default (.cmd 0b00010010#8 (onAxis 7#3)) = .ok (.settrajabs 7#3) := by rfl
theorem test_decode_ampon : decode Config.default (.cmd 0b00010011#8 (onAxis 7#3)) = .ok (.ampon 7#3) := by rfl
theorem test_decode_ampoff : decode Config.default (.cmd 0b00010100#8 (onAxis 7#3)) = .ok (.ampoff 7#3) := by rfl
theorem test_decode_home : decode Config.default (.cmd 0b00010101#8 (onAxis 7#3)) = .ok (.home 7#3) := by rfl
theorem test_decode_startmove : decode Config.default (.cmd 0b00010110#8 (onAxis 7#3)) = .ok (.startmove 7#3) := by rfl
theorem test_decode_readpos : decode Config.default (.cmd 0b00010111#8 (onAxis 7#3)) = .ok (.readpos 7#3) := by rfl
theorem test_decode_setpos : decode Config.default (.cmd 0b00011000#8 { onAxis 7#3 with pos := 9#32 }) = .ok (.setpos 7#3 9#32) := by rfl
theorem test_decode_connect : decode Config.default (.cmd 0b00100000#8 { Args.zero with auto := true, port := 5 }) =
    .ok (.connect true 5) := by rfl
theorem test_decode_disconnect : decode Config.default (.cmd 0b00100001#8 Args.zero) = .ok .disconnect := by rfl
theorem test_decode_isconnected : decode Config.default (.cmd 0b00100010#8 Args.zero) = .ok .isconnected := by rfl
theorem test_decode_exchange : decode Config.default (.cmd 0b00100011#8 { Args.zero with tmo := 250#16 }) =
    .ok (.exchange Packet.zero 250#16) := by rfl
theorem test_decode_getpos : decode Config.default (.cmd 0b00100100#8 (onAxis 7#3)) = .ok (.getpos 7#3) := by rfl
theorem test_decode_reserved : ([0x00#8, 0x09#8, 0x0F#8, 0x19#8, 0x1F#8, 0x25#8, 0xFF#8].map fun c =>
    decodeTableWord 8 c.toNat) = [0x00#8, 0x09#8, 0x0F#8, 0x19#8, 0x1F#8, 0x25#8, 0xFF#8].map fun c => some (.reserved c) := by rfl

theorem test_decode_wire_ping :
    decodeTableWord 32 0b00000000010111010000000000000111 = some .wirePing := by rfl
theorem test_decode_wire_clearfaults : decodeTableWord 80
    0b00000000111101010000001100001101000000001010000111111111111111111111111111111111 = some .wireClearfaults := by rfl
theorem test_decode_wire_settrajabs : decodeTableWord 64
    0b0000000110111100000000100000110100100000110010000000000000000000 = some (.wireSettrajabs 1#3 0xBC#8) := by rfl
theorem test_decode_wire_ampon : decodeTableWord 64
    0b0000000101000101000000100000110100100000001001000001010100000000 = some (.wireAmpon 1#3 0x45#8) := by rfl
theorem test_decode_wire_ampoff : decodeTableWord 64
    0b0000000101010000000000100000110100100000001001000000000000000000 = some (.wireAmpoff 1#3 0x50#8) := by rfl
theorem test_decode_wire_home : decodeTableWord 32 0b00000001010010100000000000010001 = some (.wireHome 1#3 0x4A#8) := by rfl
theorem test_decode_wire_startmove : decode (otherParams State.reset).cfg
    (.wire [0b00000001#8, 0b01001010#8, 0b00000001#8, 0b00010001#8, 0b00000000#8, 0b00000001#8]) =
    .ok (.wireStartmove 1#3 0x4A#8) := by rfl
theorem test_decode_wire_readpos : decodeTableWord 48 0b000000010110000100000001000011000010000000010111 =
    some (.wireReadpos 1#3 0x61#8) := by rfl
theorem test_decode_wire_setpos : decodeTableWord 80
    0b00000001101110110000001100001101001000001100101000000100000000110000001000000001 =
    some (.wireSetpos 1#3 0xBB#8 0x01020304#32) := by rfl
theorem test_decode_wire_ping_response : decodeTableWord 48 0b000000000101101100000001000000000000000000000000 =
    some .wirePingResponse := by rfl
theorem test_decode_wire_generic : decodeTableWord 32 0b00000111101001110000000100001100 =
    some (.wireGeneric ⟨0x07#8, 0xA7#8, 0x01#8, 0x0C#8, []⟩) := by rfl
theorem test_decode_short_wire : decode Config.default (.wire [1#8, 2#8, 3#8]) = .error .shorterThanHeader := by rfl

/-! ### WellFormed: an ill-formed term for each check -/

/-- R98: one payload byte more than the port carries. -/
def tooLong : Packet := ⟨0#8, 0#8, 0#8, 0#8, List.replicate 511 0#8⟩

theorem test_illformed_encode : WellFormed Config.default (.encode tooLong) = false := by decide +kernel
/-- R33, R98: one byte more than the result port of a block with `RX_DEPTH = 514` can hold. -/
theorem test_illformed_decode :
    WellFormed (otherParams State.reset).cfg (.decode (List.replicate 515 0#8)) = false := by decide +kernel
theorem test_illformed_chkvalid : WellFormed Config.default (.chkvalid tooLong) = false := by decide +kernel
theorem test_illformed_seal : WellFormed Config.default (.sealPkt tooLong) = false := by decide +kernel
theorem test_illformed_exchange : WellFormed Config.default (.exchange tooLong 0#16) = false := by decide +kernel
theorem test_illformed_reserved : WellFormed Config.default (.reserved 0x24#8) = false := by decide
theorem test_illformed_startmove : WellFormed Config.default (.wireStartmove 0#3 0x4B#8) = false := by decide
theorem test_illformed_generic : WellFormed Config.default (.wireGeneric ⟨0x00#8, 0x5D#8, 0x00#8, 0x07#8, []⟩) = false := by decide
theorem test_refused_bytes : decode (otherParams State.reset).cfg
    (.cmd 0x02#8 { Args.zero with bytes := List.replicate 515 0#8 }) = .error .bytesTooLong := by decide +kernel
theorem test_refused_payload : decode Config.default (.cmd 0x23#8 { Args.zero with pkt := tooLong }) = .error .payloadTooLong := by
  decide +kernel

/-! ### The codec (95_test_vectors.md section 2.1) -/

theorem test_encode_verbatim : valueOf (exec (.encode ⟨0x01#8, 0x00#8, 0x07#8, 0xEE#8, [0xAA#8]⟩) State.reset) =
    some (.bytes [0x01#8, 0x00#8, 0x07#8, 0xEE#8, 0xAA#8]) := by decide
theorem test_decode_three_bytes : valueOf (exec (.decode [1#8, 2#8, 3#8]) State.reset) = some (.pkt Packet.zero) := by decide
theorem test_decode_two_packets :
    valueOf (exec (.decode [0x00#8, 0x5D#8, 0x00#8, 0x07#8, 0x00#8, 0x5B#8, 0x01#8, 0x00#8, 0x00#8, 0x00#8]) State.reset) =
    some (.pkt ⟨0x00#8, 0x5D#8, 0x00#8, 0x07#8, [0x00#8, 0x5B#8, 0x01#8, 0x00#8, 0x00#8, 0x00#8]⟩) := by decide
theorem test_chkvalid_odd : valueOf (exec (.chkvalid ⟨0x00#8, 0x5B#8, 0x01#8, 0x00#8, [0x00#8]⟩) State.reset) =
    some (.bool true) := by decide
theorem test_chkvalid_zero : valueOf (exec (.chkvalid Packet.zero) State.reset) = some (.bool false) := by decide
theorem test_seal_request : valueOf (exec (.sealPkt ⟨0x01#8, 0x00#8, 0x01#8, 0x0C#8, [0x20#8, 0xA1#8]⟩) State.reset) =
    some (.pkt ⟨0x01#8, 0xD7#8, 0x01#8, 0x0C#8, [0x20#8, 0xA1#8]⟩) := by decide
theorem test_seal_ignores_checksum : valueOf (exec (.sealPkt ⟨0x00#8, 0xEE#8, 0x00#8, 0x07#8, []⟩) State.reset) =
    some (.pkt ⟨0x00#8, 0x5D#8, 0x00#8, 0x07#8, []⟩) := by decide
theorem test_packvid_top : valueOf (exec (.packvid 7#3 0x1FF#9) State.reset) = some (.b2 ⟨0xE1#8, 0xFF#8⟩) := by decide
theorem test_packvid_low : valueOf (exec (.packvid 1#3 0x017#9) State.reset) = some (.b2 ⟨0x20#8, 0x17#8⟩) := by decide
theorem test_unpackvid_bank : valueOf (exec (.unpackvid ⟨0x71#8, 0xA5#8⟩) State.reset) = some (.vid 3#3 1#1 0x1A5#9) := by decide
theorem test_unpackvid_reserved_bits : valueOf (exec (.unpackvid ⟨0x2E#8, 0x17#8⟩) State.reset) =
    some (.vid 1#3 0#1 0x017#9) := by decide
theorem test_i32tow_lsb : valueOf (exec (.i32tow (BitVec.ofInt 32 (-1000))) State.reset) =
    some (.b4 ⟨0x18#8, 0xFC#8, 0xFF#8, 0xFF#8⟩) := by decide
theorem test_i32tow_msb : valueOf (exec (.i32tow 0x01020304#32) (otherParams State.reset)) =
    some (.b4 ⟨0x01#8, 0x02#8, 0x03#8, 0x04#8⟩) := by decide
theorem test_wtoi32_lsb : valueOf (exec (.wtoi32 ⟨0xE8#8, 0x03#8, 0x00#8, 0x00#8⟩) State.reset) = some (.int32 1000#32) := by decide
theorem test_wtoi32_msb : valueOf (exec (.wtoi32 ⟨0xE8#8, 0x03#8, 0x00#8, 0x00#8⟩) (otherParams State.reset)) =
    some (.int32 (BitVec.ofInt 32 (-402456576))) := by decide
theorem test_reserved : (after (exec (.reserved 0x00#8) State.reset)).map (fun t => (t.diag, t.result)) =
    some (0x80#8, some ⟨.illegal, none⟩) := by decide

/-! ### The catalog (section 2.2) -/

theorem test_ping : valueOf (exec .ping State.reset) = some (.pkt ⟨0x00#8, 0x5D#8, 0x00#8, 0x07#8, []⟩) := by decide
theorem test_clearfaults : valueOf (exec .clearfaults State.reset) =
    some (.pkt ⟨0x00#8, 0xF5#8, 0x03#8, 0x0D#8, [0x00#8, 0xA1#8, 0xFF#8, 0xFF#8, 0xFF#8, 0xFF#8]⟩) := by decide
theorem test_clearfaults_bug : valueOf (exec .clearfaults (otherParams State.reset)) =
    some (.pkt ⟨0x00#8, 0x0A#8, 0x03#8, 0x0D#8, [0x00#8, 0xA1#8, 0xFF#8, 0x00#8, 0x00#8, 0x00#8]⟩) := by decide
theorem test_settrajabs : valueOf (exec (.settrajabs 7#3) State.reset) =
    some (.pkt ⟨0x07#8, 0x7A#8, 0x02#8, 0x0D#8, [0xE0#8, 0xC8#8, 0x00#8, 0x00#8]⟩) := by decide
theorem test_ampon : valueOf (exec (.ampon 2#3) State.reset) =
    some (.pkt ⟨0x02#8, 0x26#8, 0x02#8, 0x0D#8, [0x40#8, 0x24#8, 0x15#8, 0x00#8]⟩) := by decide
theorem test_ampon_msb : valueOf (exec (.ampon 1#3) (otherParams State.reset)) =
    some (.pkt ⟨0x01#8, 0x45#8, 0x02#8, 0x0D#8, [0x20#8, 0x24#8, 0x00#8, 0x15#8]⟩) := by decide
theorem test_ampoff : valueOf (exec (.ampoff 7#3) State.reset) =
    some (.pkt ⟨0x07#8, 0x96#8, 0x02#8, 0x0D#8, [0xE0#8, 0x24#8, 0x00#8, 0x00#8]⟩) := by decide
theorem test_home : valueOf (exec (.home 7#3) State.reset) = some (.pkt ⟨0x07#8, 0x4C#8, 0x00#8, 0x11#8, []⟩) := by decide
theorem test_home_word : valueOf (exec (.home 2#3) (otherParams State.reset)) =
    some (.pkt ⟨0x02#8, 0x4A#8, 0x01#8, 0x11#8, [0x00#8, 0x02#8]⟩) := by decide
theorem test_startmove : valueOf (exec (.startmove 1#3) State.reset) = some (.pkt ⟨0x01#8, 0x4A#8, 0x00#8, 0x11#8, []⟩) := by decide
theorem test_startmove_word : valueOf (exec (.startmove 7#3) (otherParams State.reset)) =
    some (.pkt ⟨0x07#8, 0x4C#8, 0x01#8, 0x11#8, [0x00#8, 0x01#8]⟩) := by decide
theorem test_readpos : valueOf (exec (.readpos 7#3) State.reset) =
    some (.pkt ⟨0x07#8, 0xA7#8, 0x01#8, 0x0C#8, [0xE0#8, 0x17#8]⟩) := by decide
theorem test_setpos : valueOf (exec (.setpos 1#3 0x01020304#32) State.reset) =
    some (.pkt ⟨0x01#8, 0xBB#8, 0x03#8, 0x0D#8, [0x20#8, 0xCA#8, 0x04#8, 0x03#8, 0x02#8, 0x01#8]⟩) := by decide
theorem test_setpos_min : valueOf (exec (.setpos 7#3 0x80000000#32) State.reset) =
    some (.pkt ⟨0x07#8, 0xF9#8, 0x03#8, 0x0D#8, [0xE0#8, 0xCA#8, 0x00#8, 0x00#8, 0x00#8, 0x80#8]⟩) := by decide

/-! ### The transport session (section 2.3) -/

/-- T1: `EXCHANGE p, 250` on a silent line makes four checks and three ticks. -/
theorem test_exchange_silent : (after (exec (.exchange Packet.zero 250#16) (idleWith []))).map (fun t => (t.el, t.diag)) =
    some (300#17, 0x02#8) := by decide +kernel
/-- T4: stale bytes are taken at once. -/
theorem test_exchange_stale : (after (exec (.exchange pingRequest 2000#16) (idleWith [0xE8#8, 0x03#8, 0x00#8, 0x00#8]))).map
    (fun t => (t.el, t.diag, t.rxq, t.result)) =
    some (0#17, 0x00#8, [], some ⟨.ok, some (.pkt ⟨0xE8#8, 0x03#8, 0x00#8, 0x00#8, []⟩)⟩) := by decide +kernel
/-- E6: the ping signature. -/
theorem test_isconnected_signature : valueOf (exec .isconnected (idleWith pingSig)) = some (.bool true) := by decide +kernel
/-- T7: seven bytes are not the signature; `ST` stays `Idle`. -/
theorem test_isconnected_longer : (after (exec .isconnected (idleWith (pingSig ++ [0#8])))).map (fun t => (t.diag, t.st)) =
    some (0x08#8, .idle) := by decide +kernel
/-- E7: a position response is stored under its axis. -/
theorem test_getpos_stores : (after (exec (.getpos 0#3)
    (idleWith [0x00#8, 0xB3#8, 0x02#8, 0x00#8, 0xE8#8, 0x03#8, 0x00#8, 0x00#8]))).map (fun t => (t.lastposAt 0#3, t.lastposAt 1#3)) =
    some (1000#32, 0#32) := by decide +kernel
/-- T13: a checksum that is one bit off leaves the position. -/
theorem test_getpos_stale : (after (exec (.getpos 0#3)
    ((idleWith [0x00#8, 0x94#8, 0x02#8, 0x00#8, 0xC4#8, 0x09#8, 0x00#8, 0x00#8]).setLastpos 0#3 1000#32))).map
    (fun t => (t.lastposAt 0#3, t.diag)) = some (1000#32, 0x04#8) := by decide +kernel
/-- T9 (b): a port beyond `N_PORTS`. -/
theorem test_connect_no_port : (after (exec (.connect false 3) State.reset)).map (fun t => (t.st, t.diag, t.txlog)) =
    some (.closed, 0x10#8, []) := by decide +kernel
/-- T9 (d): the peer answers the ping and is silent after. -/
theorem test_connect_succeeds : (after (exec (.connect false 0)
    { State.reset with opens := [true], inputs := List.replicate 9 .go ++ pingSig.map .rx ++ [.await] })).map
    (fun t => (t.st, t.diag, t.txlog.length, t.el)) = some (.idle, 0x02#8, 14, 15000#17) := by decide +kernel
/-- T12. -/
theorem test_disconnect : (after (exec .disconnect (idleWith [0xAA#8, 0xBB#8]))).map (fun t => (t.st, t.rxq)) =
    some (.closed, []) := by decide
/-- R22: `Opening` is seen while a `CONNECT` runs. -/
theorem test_opening_is_seen : (after (step { State.reset with
    opens := [true], inputs := [.word (.cmd 0x20#8 Args.zero), .go, .go, .go, .go, .look] })).map (fun t => (t.st, t.busy)) =
    some (.opening, true) := by decide +kernel
/-- R291: reset ends an exchange early; the request stays sent, the observer's log starts anew. -/
theorem test_reset_ends_exchange : (after (exec (.exchange pingRequest 2000#16)
    { idleWith [] with inputs := List.replicate 5 .go ++ [.reset] })).map (fun t => (t.st, t.busy, t.result, t.txlog)) =
    some (.closed, false, none, []) := by decide +kernel
/-! ### The wire rows and the facade -/

theorem test_wire_request : (after (exec (.wireHome 1#3 0x4A#8) (idleWith [0#8, 0x5A#8, 0#8, 0#8]))).map (fun t => (t.txlog, t.tmo)) =
    some ([(0, 0x01#8), (0, 0x4A#8), (0, 0x00#8), (0, 0x11#8)], 15000#16) := by decide +kernel
theorem test_wire_response : (after (exec .wirePingResponse (idleWith [0xAA#8]))).map (·.rxq) = some (0xAA#8 :: pingSig) := by decide
/-- Section 2.4: `DISABLEAXIS 1`. -/
theorem test_disable_axis : (after (disableAxis 1#3 (idleWith [0#8, 0x5A#8, 0#8, 0#8]))).map (·.txlog.map Prod.snd) =
    some [0x01#8, 0x50#8, 0x02#8, 0x0D#8, 0x20#8, 0x24#8, 0x00#8, 0x00#8] := by decide +kernel

/-! ### Witnesses: each obligation's hypotheses are met -/

/-- An exchange that waits, in a coherent state. -/
def waiting : State :=
  { idleWith [0xAA#8] with ph := .poll, tmo := 250#16, el := 200#17, job := some (.xchg .exchange .wait) }

theorem waiting_coherent : Coherent waiting where
  cfg_wf := by decide
  st_ok := by decide
  ph_ok := by decide
  rx_closed := by decide
  rx_depth := fun d h => absurd h (by simp [waiting, idleWith, State.reset, State.resetWith, Config.default])
  el_step := by decide
  el_max := by decide
  el_poll := by decide
  el_wait := by decide
  port_ok := by decide
  opens_ok := trivial
  busy_result := by decide
  args_fit := by decide
  result_fits := by decide

theorem idle_coherent : Coherent (idleWith []) where
  cfg_wf := by decide
  st_ok := by decide
  ph_ok := by decide
  rx_closed := by decide
  rx_depth := fun d h => absurd h (by simp [idleWith, State.reset, State.resetWith, Config.default])
  el_step := by decide
  el_max := by decide
  el_poll := by decide
  el_wait := by decide
  port_ok := by decide
  opens_ok := trivial
  busy_result := by decide
  args_fit := by decide
  result_fits := by decide

/-- `Closed` with the position of axis 3 known and a sticky bit set. -/
def closedState : State := ({ State.reset with diag := 0x10#8, txlog := [(0, 0x00#8)] }).setLastpos 3#3 7#32

theorem closed_coherent : Coherent closedState where
  cfg_wf := by decide
  st_ok := by decide
  ph_ok := by decide
  rx_closed := by decide
  rx_depth := fun d h => absurd h (by simp [closedState, State.setLastpos, State.reset, State.resetWith, Config.default])
  el_step := by decide
  el_max := by decide
  el_poll := by decide
  el_wait := by decide
  port_ok := by decide
  opens_ok := trivial
  busy_result := by decide
  args_fit := by decide
  result_fits := by decide

theorem witness_DecodeInvertsEncode :
    WellFormed Config.default (.wireSetpos 7#3 0xF9#8 0x80000000#32) = true ∧
    WellFormed (otherParams State.reset).cfg (.wireStartmove 1#3 0x4A#8) = true ∧
    WellFormed Config.default (.reserved 0xFF#8) = true ∧
    WellFormed Config.default (.wireGeneric Packet.zero) = true := by decide
theorem witness_DecodedWireBytesAreKept :
    decode Config.default (.wire pingSig) = .ok .wirePingResponse ∧ decode Config.default (.cmd 0xFF#8 Args.zero) = .ok (.reserved 0xFF#8) :=
  ⟨rfl, rfl⟩
theorem witness_HomeAndStartmoveAreOneWord :
    Config.default.trajSubcmd = .none ∧ (otherParams State.reset).cfg.trajSubcmd = .payloadWord := by decide
theorem witness_StepRunsTheDecodedInstruction : ∃ s s' : State, ∃ i e,
    s.busy = false ∧ s.inputs = [.word (.cmd 0x24#8 Args.zero)] ∧ decode s.cfg (.cmd 0x24#8 Args.zero) = .ok i ∧
    s'.busy = false ∧ s'.inputs = [.word (.wire [])] ∧ decode s'.cfg (.wire []) = .error e :=
  ⟨{ State.reset with inputs := [.word (.cmd 0x24#8 Args.zero)] }, { State.reset with inputs := [.word (.wire [])] },
    .getpos 0#3, .shorterThanHeader, rfl, rfl, rfl, rfl, rfl, rfl⟩
theorem witness_OnlyUnpresentableWordsAreRefused :
    decode Config.default (.cmd 0x01#8 { Args.zero with pkt := tooLong }) = .error .payloadTooLong ∧
    decode (otherParams State.reset).cfg (.cmd 0x02#8 { Args.zero with bytes := List.replicate 515 0#8 }) = .error .bytesTooLong ∧
    decode Config.default (.wire [1#8, 2#8, 3#8]) = .error .shorterThanHeader := by decide +kernel
theorem witness_EveryCommandEnds : (idleWith []).busy = false ∧ NoLook (idleWith []) := by
  simp [NoLook, idleWith, State.reset, State.resetWith, State.busy]
theorem witness_StepKeepsCoherence : ∃ t, Coherent waiting ∧ step waiting = .next t := ⟨_, waiting_coherent, rfl⟩
theorem witness_DiagSticksAndTxlogGrows : ∃ t, NoReset waiting ∧ step waiting = .next t :=
  ⟨_, by simp [NoReset, waiting, idleWith, State.reset, State.resetWith], rfl⟩
theorem witness_DiagIsReadByNothing : ∃ t, step waiting = .next t := ⟨_, rfl⟩
theorem witness_ResetFromAnyState :
    { waiting with inputs := [.reset] }.inputs = [.reset] ∧ { waiting with inputs := [.reset] }.busy = true ∧
    { idleWith [1#8] with inputs := [.reset] }.busy = false := by decide
theorem witness_StartWhileBusyIsIgnored :
    waiting.busy = true ∧ isArrival (.getpos 0#3) = false ∧
    { waiting with inputs := [.word (.cmd 0x21#8 Args.zero)] }.busy = true := by decide
/-- A clause each: closed, room and full, in a command and between commands; the queue's limit is met exactly. -/
theorem witness_ByteArrival :
    ({ waiting with st := .closed, inputs := [.rx 1#8] }.busy = true ∧ { waiting with st := .closed }.st = .closed) ∧
    ({ waiting with inputs := [.rx 1#8] }.busy = true ∧ waiting.st ≠ .closed ∧ waiting.cfg.rxDepth = none) ∧
    ({ otherParams waiting with rxq := List.replicate 514 0#8 }.cfg.rxDepth = some 514 ∧ (otherParams waiting).st ≠ .closed) ∧
    ((otherParams waiting).cfg.rxDepth = some 514 ∧ (List.replicate 513 0#8).length < 514) ∧
    ((idleWith []).busy = false ∧ (idleWith []).st ≠ .closed) ∧ (State.reset.busy = false ∧ State.reset.st = .closed) ∧
    ({ otherParams (idleWith []) with rxq := List.replicate 514 0#8 }.cfg.rxDepth = some (List.replicate 514 0#8).length) := by
  decide +kernel
theorem witness_OnlyAnOpenExchangeTransmits : Coherent waiting ∧ waiting.inputs.head? ≠ some .reset :=
  ⟨waiting_coherent, by decide⟩
theorem witness_ConnFollowsSt :
    State.reset.st = .closed ∧ { State.reset with st := .opening }.st = .opening ∧
    { State.reset with st := .probing }.st = .probing ∧ (idleWith []).st = .idle := by decide
theorem witness_TicksCountOnlyWhileAnExchangeWaits :
    { waiting with inputs := [.tick] }.job = some (.xchg .exchange .wait) ∧
    (∀ k, { idleWith [] with inputs := [.tick] }.job ≠ some (.xchg k .wait)) ∧
    { idleWith [] with inputs := [.tick] }.busy = false ∧
    { waiting with job := some (.xchg .exchange .count), inputs := [.tick] }.job = some (.xchg .exchange .count) :=
  ⟨rfl, fun k => by simp [idleWith, State.reset, State.resetWith], rfl, rfl⟩
theorem witness_ResultIsHeldUntilTheNextCommand : ∃ t, (endedWith (idleWith []) (.bool true)).busy = false ∧
    step { endedWith (idleWith []) (.bool true) with inputs := [.rx 1#8] } = .next t ∧ t.result = some ⟨.ok, some (.bool true)⟩ :=
  ⟨_, rfl, rfl, rfl⟩
theorem witness_CodecAndCatalogTouchNoRegister :
    isPure (.setpos 1#3 5#32) = true ∧ State.reset.busy = false ∧ (idleWith [1#8]).busy = false ∧
    State.reset.cfg = (idleWith [1#8]).cfg := by decide
/-- For `EncodeReturnsTheWireBytes` to `Wtoi32ReadsTheBytesInWireOrder`, `ReservedCodeIsIllegal`, `GlobalRequests`,
`SetVariableRequests`, `TrajectoryRequests`, `ReadposRequest` and `DisconnectClosesThePort`: no command in flight, a payload of
the greatest length, the reserved codes at the ends of their ranges, and each value of each parameter. -/
theorem witness_ImmediateCommands :
    State.reset.busy = false ∧ (⟨0#8, 0#8, 0#8, 0#8, List.replicate 510 0#8⟩ : Packet).payload.length ≤ 510 ∧
    ([] : List Byte).length < 4 ∧
    ((otherParams State.reset).cfg.rxDepth = some 514 ∧ (List.replicate 514 0#8 : List Byte).length ≤ 514) ∧ 0x25 ≤ (0x25#8).toNat ∧ 0x0F ≤ (0x0F#8).toNat ∧ (0x1F#8).toNat ≤ 0x1F ∧
    State.reset.st = .closed ∧ (idleWith []).busy = false ∧ (idleWith []).st ≠ .closed ∧
    State.reset.cfg.trajSubcmd = .none ∧ (otherParams State.reset).cfg.trajSubcmd = .payloadWord ∧
    State.reset.cfg.clearfaultsFill = .allFF ∧ (otherParams State.reset).cfg.clearfaultsFill = .sourceBug ∧
    State.reset.cfg.intWireOrder = .lsbFirst ∧ (otherParams State.reset).cfg.intWireOrder = .msbFirst := by decide +kernel
theorem witness_SerialiserRoundTrip : 4 ≤ [1#8, 2#8, 3#8, 4#8].length ∧ [1#8, 2#8, 3#8].length < 4 := by decide
theorem witness_ChecksumLaws : checksumValid pingRequest = true ∧ 3 < (bytesOf pingRequest).length := by decide
theorem witness_ChecksumBlindSpots :
    0 < (bytesOf pingRequest).length ∧ 3 < (bytesOf pingRequest).length ∧
    (bytesOf ⟨1#8, 2#8, 3#8, 4#8, [5#8, 6#8]⟩).Perm (bytesOf ⟨1#8, 2#8, 3#8, 4#8, [6#8, 5#8]⟩) := by decide
theorem witness_IdentifierWordRoundTrip : packVid 7#3 511#9 = packVid 7#3 511#9 := rfl
theorem witness_CatalogLaws : pingPacket ∈ [pingPacket] ∧ (setposPacket Config.default 7#3 5#32).node.toNat = 7 := by decide
/-- For `ExchangeOnAQuietLine`, `IsconnectedOnAQuietLine`, `GetposOnAQuietLine`, `ConnectWhenConnectedIsANoOp`,
`WireRequestsAreExchanged` and `FacadeSequencesTransmit`: nothing in flight, nothing outside, in `Idle` and in `Closed`. -/
theorem witness_QuietIdleAndClosed :
    Quiet (idleWith []) ∧ (idleWith []).st = .idle ∧ Quiet State.reset ∧ State.reset.st = .closed := by
  simp [Quiet, idleWith, State.reset, State.resetWith]
theorem witness_IsconnectedOnAQuietLine : Quiet (idleWith pingSig) ∧ (idleWith pingSig).st = .idle ∧
    (idleWith pingSig).rxq = [0x00#8, 0x5B#8, 0x01#8, 0x00#8, 0x00#8, 0x00#8] ∧ (idleWith []).rxq ≠ pingSig := by
  simp [Quiet, idleWith, State.reset, State.resetWith, pingSig]
/-- A clause each of `GETPOS`: a bad checksum, a payload of two bytes, a payload of four. -/
theorem witness_GetposOnAQuietLine :
    (wireBytes (answerTo (idleWith []) (readposRequest 0#3))).foldl (· ^^^ ·) 0x00#8 ≠ 0x5A#8 ∧
    ((wireBytes (answerTo (idleWith pingSig) (readposRequest 0#3))).foldl (· ^^^ ·) 0x00#8 = 0x5A#8 ∧
      (answerTo (idleWith pingSig) (readposRequest 0#3)).payload.length ≠ 4) ∧
    ((wireBytes (answerTo (idleWith [0x00#8, 0xB3#8, 0x02#8, 0x00#8, 0xE8#8, 0x03#8, 0x00#8, 0x00#8]) (readposRequest 0#3))).foldl
        (· ^^^ ·) 0x00#8 = 0x5A#8 ∧
      (answerTo (idleWith [0x00#8, 0xB3#8, 0x02#8, 0x00#8, 0xE8#8, 0x03#8, 0x00#8, 0x00#8]) (readposRequest 0#3)).payload =
        [0xE8#8, 0x03#8, 0x00#8, 0x00#8]) := by decide
theorem witness_ResponseIsCutAtTheDrain : (idleWith []).job = none ∧ (idleWith []).st = .idle ∧ (idleWith []).rxq = [] ∧
    0 < (1#16).toNat ∧ 4 ≤ pingSig.length ∧ (otherParams (idleWith [])).cfg.rxDepth = some 514 ∧ pingSig.length ≤ 514 := by decide
/-- T3: the second half of a response that comes after the drain stays in `RXQ`. -/
theorem witness_ResponseIsCutAtTheDrain_runs : (after (exec (.exchange pingRequest 2000#16)
    { idleWith [] with inputs := List.replicate 5 .go ++ [.rx 0x00#8, .rx 0xB3#8, .rx 0x02#8, .rx 0x00#8, .tick, .go, .go, .go, .go]
      ++ [.rx 0xE8#8, .await] })).map (fun t => (t.result, t.rxq)) =
    some (some ⟨.ok, some (.pkt ⟨0x00#8, 0xB3#8, 0x02#8, 0x00#8, []⟩)⟩, [0xE8#8]) := by decide +kernel
theorem witness_ConnectTwiceIsIdempotent : ∃ t, Coherent (idleWith []) ∧ (idleWith []).busy = false ∧
    exec (.connect true 0) (idleWith []) = .next t ∧ t.busy = false ∧ t.inputs = [] ∧ t.result = some ⟨.ok, some (.bool true)⟩ :=
  ⟨_, idle_coherent, rfl, rfl, rfl, rfl, rfl⟩
/-- For `ConnectToAPortThatDoesNotOpen` and `ConnectToASilentPeer`: a port beyond `N_PORTS`, one that does not open, one that
does. -/
theorem witness_ConnectToAPort :
    Quiet { State.reset with opens := [false] } ∧ Quiet { State.reset with opens := [true] } ∧ State.reset.st = .closed ∧
    State.reset.cfg.nPorts ≤ 1 ∧ 0 < State.reset.cfg.nPorts := by
  simp [Quiet, State.reset, State.resetWith, Config.default]

/-- A block with three ports and `RX_DEPTH = 514`, in `Closed`, with these answers and these inputs. -/
def outside (opens : List Bool) (ins : List Input) : State := { otherParams State.reset with opens := opens, inputs := ins }

/-- A clause each: the peer is silent, answers the `clearFaults` request, or sends bytes at other times; in the last clause the
response to `clearFaults` is cut and its tail left in `RXQ`. -/
theorem witness_ConnectToAPeerThatAnswers : ∃ t,
    (outside [true] []).job = none ∧ (outside [true] []).cfg.wf = true ∧ (outside [true] []).st = .closed ∧
    2 < (outside [true] []).cfg.nPorts ∧
    exec (.connect false 2) (outside [true]
      (List.replicate 9 .go ++ pingSig.map .rx ++ [.tick] ++ List.replicate 13 .go ++ [1#8, 2#8, 3#8, 4#8].map .rx ++ [.await])) =
      .next t ∧ t.st = .idle ∧ t.el = 0#17 ∧ t.diag = 0x00#8 := ⟨_, by decide, by decide, by decide, by decide, rfl, by decide +kernel, by decide +kernel, by decide +kernel⟩
theorem witness_ConnectToAPeerThatAnswers_anyLine : ∃ t,
    Input.reset ∉ [Input.go, .rx 1#8, .tick, .rx 2#8] ∧ Input.look ∉ [Input.go, .rx 1#8, .tick, .rx 2#8] ∧
    exec (.connect false 2) (outside [true]
      (List.replicate 9 .go ++ pingSig.map .rx ++ [.tick] ++ List.replicate 4 .go ++ [.go, .rx 1#8, .tick, .rx 2#8])) = .next t ∧
    t.st = .idle := ⟨_, by decide, by decide, rfl, by decide +kernel⟩
/-- Port 0 does not open, port 1 opens to a silent peer, port 2 answers. -/
theorem witness_ScanStopsAtThePortThatAnswers : ∃ t,
    (outside [false, true, true] []).job = none ∧ (outside [] []).cfg.wf = true ∧ (outside [] []).st = .closed ∧
    [false, true].length < (outside [] []).cfg.nPorts ∧
    exec (.connect true 0) (outside ([false, true] ++ true :: [])
      (List.replicate 2 .go ++ passedPorts [false, true] ++ List.replicate 8 .go ++ pingSig.map .rx ++ [.tick] ++
        List.replicate 4 .go ++ [])) = .next t ∧ t.st = .idle ∧ t.port = 2 ∧ t.txlog.length = 18 :=
  ⟨_, by decide, by decide, by decide, by decide, rfl, by decide +kernel, by decide +kernel, by decide +kernel⟩
theorem witness_ScanTriesEveryPortInOrder :
    Quiet { otherParams State.reset with opens := [false, true, true] } ∧
    { otherParams State.reset with opens := [false, true, true] }.cfg.nPorts ≤ [false, true, true].length := by
  simp [Quiet, State.reset, State.resetWith, otherParams]
/-- For `WhatEachCommandTransmits`, `EachCommandRaisesItsOwnBits`, `FrameOfEveryCommand` and `WaitingIsBounded`, in `Idle`. -/
theorem witness_AnyLine : Coherent (idleWith []) ∧ (idleWith []).busy = false ∧ NoReset (idleWith []) ∧ NoLook (idleWith []) ∧
    (idleWith []).st = .idle ∧ requestOf (idleWith []).cfg .ping = none ∧
    requestOf (idleWith []).cfg .isconnected = some pingRequest :=
  ⟨idle_coherent, rfl, by simp [NoReset, idleWith, State.reset, State.resetWith],
    by simp [NoLook, idleWith, State.reset, State.resetWith], rfl, rfl, rfl⟩
/-- The same in `Closed`, and for the second clause of `ScanStopsAtThePortThatAnswers`. -/
theorem witness_AnyLine_closed : Coherent closedState ∧ closedState.busy = false ∧ NoReset closedState ∧ NoLook closedState ∧
    closedState.st = .closed :=
  ⟨closed_coherent, rfl, by simp [NoReset, closedState, State.setLastpos, State.reset, State.resetWith],
    by simp [NoLook, closedState, State.setLastpos, State.reset, State.resetWith], rfl⟩
/-- The clauses of `WaitingIsBounded` on the commands that wait and on those that do not. -/
theorem witness_WaitingIsBounded :
    firstJob (idleWith []).cfg (.exchange pingRequest 65535#16) = some (.xchg .exchange (.test pingRequest 65535#16)) ∧
    waitLimit (idleWith []).cfg .idle (.exchange pingRequest 65535#16) = 656 ∧
    firstJob closedState.cfg (.connect true 0) = some (.connect [] (.test true 0)) ∧ firstJob closedState.cfg .disconnect = none := by
  decide
theorem witness_AnyLine_runs : ∃ t u, exec (.exchange pingRequest 0#16) (idleWith []) = .next t ∧
    exec (.connect false 0) State.reset = .next u := ⟨_, _, rfl, rfl⟩
theorem witness_WirePacketsArrive : (idleWith []).st ≠ .closed ∧ (idleWith []).cfg.rxDepth = none ∧
    (otherParams (idleWith [])).cfg.rxDepth = some 514 ∧ (otherParams (idleWith [])).rxq.length ≤ 514 ∧ State.reset.st = .closed := by
  decide

end Sys2Proof.Tests
end

/-! Proofs for the family 10_state.md: what an instruction, a step and the run of a command can do, said once, and the
statements about the invariant, `DIAG`, `TXLOG` and the frame of a command. -/

namespace Sys2Proof.Proofs

open Sys2Proof.Machine

/-! ### The kinds of instruction -/

/-- The value a codec or catalog command ends with (R36: a function of the parameters and the arguments). The other
instructions have no such value; `exec_pure` ties the definition to `exec`. -/
def pureValue (cfg : Config) (i : Instr) : Value :=
  match i with
  | .encode p => .bytes (bytesOf p)
  | .decode bs => .pkt (packetOf bs)
  | .chkvalid p => .bool (checksumValid p)
  | .sealPkt p => .pkt (sealPacket p)
  | .packvid a n => .b2 (packVid a n)
  | .unpackvid w => .vid (vidAxis (vidOf w)) (vidBank (vidOf w)) (vidVarnum (vidOf w))
  | .i32tow v => .b4 (val32 cfg.intWireOrder v)
  | .wtoi32 w => .int32 (int32Of cfg.intWireOrder w)
  | .ping => .pkt pingPacket
  | .clearfaults => .pkt (clearfaultsPacket cfg)
  | .settrajabs a => .pkt (settrajabsPacket cfg a)
  | .ampon a => .pkt (amponPacket cfg a)
  | .ampoff a => .pkt (ampoffPacket cfg a)
  | .home a => .pkt (homePacket cfg a)
  | .startmove a => .pkt (startmovePacket cfg a)
  | .readpos a => .pkt (readposPacket a)
  | .setpos a v => .pkt (setposPacket cfg a v)
  | _ => .bool false

/-- A command that ends in the step it starts in ends with its value. -/
theorem issue_complete {s : State} (v : State → Value) (h : s.busy = false) :
    (s.issue fun u => u.complete (v u)) = .next (endedWith s (v s.accept)) :=
  (issue_ready s _ h).trans (congrArg Host.Outcome.next (accept_complete s h _))

/-- R36: a codec or catalog command ends in the step it starts in. -/
theorem exec_pure {i : Instr} {s : State} (hp : isPure i = true) (h : s.busy = false) :
    exec i s = .next (endedWith s (pureValue s.cfg i)) := by
  have hv : (s.issue fun u => u.complete (pureValue u.cfg i)) = .next (endedWith s (pureValue s.cfg i)) :=
    issue_complete (fun u => pureValue u.cfg i) h
  cases i <;> cases hp <;> exact hv

/-- A command that can wait is started at its first line and runs. -/
theorem exec_firstJob {i : Instr} {s : State} {j : Job} (hj : firstJob s.cfg i = some j) (h : s.busy = false) :
    exec i s = .next (started s j).resume := by
  cases i <;> cases hj <;> exact issue_ready s (fun u => u.launch _) h

theorem exec_disconnect {s : State} (h : s.busy = false) :
    exec .disconnect s = .next ((if s.st = .closed then s.accept else s.accept.closePort).complete (.bool true)) :=
  issue_ready s (fun u => (if u.st = .closed then u else u.closePort).complete (.bool true)) h

theorem exec_reserved {s : State} (c : Byte) (h : s.busy = false) :
    exec (.reserved c) s = .next (s.accept.note .illcmd).reject :=
  issue_ready s (fun u => (u.note .illcmd).reject) h

/-- A wire row that is no request is the arrival of one packet, in a command or between commands. -/
theorem exec_arrival {i : Instr} (hi : isArrival i = true) :
    ∃ p, ∀ s, exec i s = .next (s.arriveAll (bytesOf p)) := by
  cases i <;> cases hi
  case wirePingResponse => exact ⟨rowPingResponse, fun _ => rfl⟩
  case wireGeneric p => exact ⟨p, fun _ => rfl⟩

/-- Every instruction is of one of five kinds. -/
theorem instr_kinds (cfg : Config) (i : Instr) :
    isPure i = true ∨ (∃ j, firstJob cfg i = some j) ∨ i = .disconnect ∨ (∃ c, i = .reserved c) ∨ isArrival i = true := by
  cases i
  case connect | isconnected | exchange | getpos => exact .inr (.inl ⟨_, rfl⟩)
  case wirePing | wireClearfaults | wireSettrajabs | wireAmpon | wireAmpoff | wireHome | wireStartmove | wireReadpos
    | wireSetpos => exact .inr (.inl ⟨_, rfl⟩)
  case disconnect => exact .inr (.inr (.inl rfl))
  case reserved c => exact .inr (.inr (.inr (.inl ⟨c, rfl⟩)))
  case wirePingResponse | wireGeneric => exact .inr (.inr (.inr (.inr rfl)))
  all_goals exact .inl rfl

/-- What an instruction can do when no command is in flight. -/
theorem exec_cases {i : Instr} {s t : State} (h : s.busy = false) (he : exec i s = .next t) :
    (isPure i = true ∧ t = endedWith s (pureValue s.cfg i)) ∨
    (∃ j, firstJob s.cfg i = some j ∧ t = (started s j).resume) ∨
    (i = .disconnect ∧ t = (if s.st = .closed then s.accept else s.accept.closePort).complete (.bool true)) ∨
    (∃ c, i = .reserved c ∧ t = (s.accept.note .illcmd).reject) ∨
    (isArrival i = true ∧ ∃ p, t = s.arriveAll (bytesOf p)) := by
  obtain hp | ⟨j, hj⟩ | rfl | ⟨c, rfl⟩ | ha := instr_kinds s.cfg i
  · rw [exec_pure hp h] at he
    exact .inl ⟨hp, (Host.Outcome.next.inj he).symm⟩
  · rw [exec_firstJob hj h] at he
    exact .inr (.inl ⟨j, hj, (Host.Outcome.next.inj he).symm⟩)
  · rw [exec_disconnect h] at he
    exact .inr (.inr (.inl ⟨rfl, (Host.Outcome.next.inj he).symm⟩))
  · rw [exec_reserved c h] at he
    exact .inr (.inr (.inr (.inl ⟨c, rfl, (Host.Outcome.next.inj he).symm⟩)))
  · obtain ⟨p, hp⟩ := exec_arrival ha
    rw [hp] at he
    exact .inr (.inr (.inr (.inr ⟨ha, p, (Host.Outcome.next.inj he).symm⟩)))

/-- Settles O22: by `exec_pure` the value is `pureValue` of the parameters and the instruction. -/
theorem codecAndCatalogTouchNoRegister : Obligations.CodecAndCatalogTouchNoRegister := by
  intro i s s' hp h h' hcfg
  refine ⟨pureValue s.cfg i, exec_pure hp h, ?_⟩
  rw [hcfg]
  exact exec_pure hp h'

/-! ### What a step can do -/

theorem step_word {s : State} {w : PortWord} {ins : List Input} {i : Instr} (h : s.busy = false)
    (hi : s.inputs = .word w :: ins) (hd : decode s.cfg w = .ok i) :
    step s = exec i { s.lowerDone with inputs := ins } := by
  simp [step, h, hi, hd]

theorem step_refused {s : State} {w : PortWord} {ins : List Input} {e : DecodeError} (h : s.busy = false)
    (hi : s.inputs = .word w :: ins) (hd : decode s.cfg w = .error e) : step s = .refused (.badWord e) := by
  simp [step, h, hi, hd]

/-- What a step that answers a state has done: the command in flight has run on, nothing stood ready, an event was taken, or
a word was decoded and its instruction run. -/
theorem step_cases {s t : State} (hs : step s = .next t) :
    (s.busy = true ∧ t = s.lowerDone.resume) ∨
    (s.busy = false ∧ s.inputs = [] ∧ t = s.lowerDone) ∨
    (∃ e ins, s.busy = false ∧ s.inputs = e :: ins ∧ (∀ w, e ≠ .word w) ∧
      t = { s.lowerDone with inputs := ins }.idleEvent e) ∨
    (∃ w ins i, s.busy = false ∧ s.inputs = .word w :: ins ∧ decode s.cfg w = .ok i ∧
      exec i { s.lowerDone with inputs := ins } = .next t) := by
  cases hb : s.busy with
  | true =>
    rw [step_busy s hb] at hs
    exact .inl ⟨rfl, (Host.Outcome.next.inj hs).symm⟩
  | false =>
    match hi : s.inputs with
    | [] =>
      rw [step_nothing s hb hi] at hs
      exact .inr (.inl ⟨rfl, rfl, (Host.Outcome.next.inj hs).symm⟩)
    | e :: ins =>
      by_cases hw : ∃ w, e = .word w
      · obtain ⟨w, rfl⟩ := hw
        cases hd : decode s.cfg w with
        | error e => simp [step_refused hb hi hd] at hs
        | ok i => exact .inr (.inr (.inr ⟨w, ins, i, rfl, rfl, hd, step_word hb hi hd ▸ hs⟩))
      · have hw : ∀ w, e ≠ .word w := fun w h => hw ⟨w, h⟩
        rw [step_event s e ins hb hi hw] at hs
        exact .inr (.inr (.inl ⟨e, ins, rfl, rfl, hw, (Host.Outcome.next.inj hs).symm⟩))

/-! ### Events and turns, by what they can do -/

theorem arrive_cases (s : State) (b : Byte) :
    s.arrive b = s ∨ s.arrive b = s.note .rxovr ∨
    (s.st ≠ .closed ∧ s.rxFull = false ∧ s.arrive b = { s with rxq := s.rxq ++ [b] }) := by
  by_cases hst : s.st = .closed
  · exact .inl (arrive_closed s b hst)
  · cases hf : s.rxFull with
    | true => exact .inr (.inl (arrive_full s b hst hf))
    | false => exact .inr (.inr ⟨hst, rfl, arrive_room s b hst hf⟩)

theorem tickEvent_cases (s : State) :
    s.tickEvent = s ∨ ∃ k, s.job = some (.xchg k .wait) ∧ s.tickEvent = s.goto (.xchg k .count) := by
  by_cases hw : ∃ k, s.job = some (.xchg k .wait)
  · obtain ⟨k, hk⟩ := hw
    exact .inr ⟨k, hk, tickEvent_waiting s k hk⟩
  · exact .inl (tickEvent_other s fun k hk => hw ⟨k, hk⟩)

theorem turn_cases (s : State) : s.turn = s.tickEvent ∨ s.turn = s.blockLine := by
  unfold State.turn
  split
  · exact .inl rfl
  · exact .inr rfl

/-! ### What the run of a command keeps -/

/-- A property of states that each part of a cycle keeps. What stands ready outside may be used up, by a state with the
property or by a line it takes from there; reset has to keep the property only where a reset stands ready. -/
structure KeptInRun (P : State → Prop) : Prop where
  inputs : ∀ s u ins, ins <:+ s.inputs → P s → P u → P { u with inputs := ins }
  arrive : ∀ s b, P s → P (s.arrive b)
  tick : ∀ s, P s → P s.tickEvent
  line : ∀ s, P s → P s.blockLine
  reset : ∀ s ins, s.inputs = .reset :: ins → P s → P ({ s with inputs := ins }.doReset)

theorem KeptInRun.arriveAll {P : State → Prop} (hk : KeptInRun P) (bs : List Byte) {s : State} (h : P s) :
    P (s.arriveAll bs) := by
  induction bs generalizing s with
  | nil => exact h
  | cons b bs ih => exact ih (hk.arrive s b h)

theorem KeptInRun.turn {P : State → Prop} (hk : KeptInRun P) {s : State} (h : P s) : P s.turn := by
  obtain ht | ht := turn_cases s
  · exact ht ▸ hk.tick s h
  · exact ht ▸ hk.line s h

theorem KeptInRun.cycle {P : State → Prop} (hk : KeptInRun P) {s : State} (h : P s) : P s.cycle := by
  have hin : ∀ e ins, s.inputs = e :: ins → P { s with inputs := ins } := fun e ins hi =>
    hk.inputs s s ins (hi ▸ List.suffix_cons e ins) h h
  unfold State.cycle
  split
  case h_1 => exact hk.turn h
  case h_2 b ins hi => exact hk.arrive _ b (hin _ _ hi)
  case h_3 ins hi => exact hk.tick _ (hin _ _ hi)
  case h_4 ins hi => exact hk.line _ (hin _ _ hi)
  case h_5 ins hi =>
    split
    · exact hk.turn h
    · exact hk.inputs s _ ins (hi ▸ List.suffix_cons _ ins) h (hk.turn h)
  case h_6 ins hi => exact hin _ _ hi
  case h_7 ins hi => exact hk.reset s ins hi h
  case h_8 w ins hi => exact hk.arriveAll _ (hin _ _ hi)

theorem KeptInRun.resume {P : State → Prop} (hk : KeptInRun P) {s : State} (h : P s) : P s.resume :=
  runFor_induction s P (fun _ hu _ => hk.cycle hu)
    (fun u ins hu hi => hk.inputs u u ins (hi ▸ List.suffix_cons _ ins) hu hu) s.bound h

/-! ### The effect of a command on the registers an observer sees -/

/-- Whose command a line belongs to, as far as the frame of a command depends on it. -/
inductive Owner where
  | connect
  | disconnect
  | getpos (a : Axis)
  | other

/-- R184, R185: a probe is run by `ISCONNECTED` or by `CONNECT`. -/
def probeOwner : ProbeCaller → Owner
  | .isconnected => .other
  | .connect _ => .connect

/-- R183: whose exchange it is. `EXCHANGE` and the wire request rows have the same frame as `ISCONNECTED`. -/
def xchgOwner : XchgCaller → Owner
  | .exchange => .other
  | .getpos a => .getpos a
  | .probe c => probeOwner c
  | .clear => .connect

/-- The owner of a line. -/
def jobOwner : Job → Owner
  | .xchg k _ => xchgOwner k
  | .probe c _ => probeOwner c
  | .getpos a _ => .getpos a
  | .connect _ _ => .connect

/-- The owner an instruction is; `jobOwner_firstJob` ties it to the lines it runs. -/
def instrOwner : Instr → Owner
  | .connect _ _ => .connect
  | .disconnect => .disconnect
  | .getpos a => .getpos a
  | _ => .other

theorem instrOwner_connect {i : Instr} (h : ∀ auto port, i ≠ .connect auto port) : instrOwner i ≠ .connect := by
  cases i
  case connect auto port => exact absurd rfl (h auto port)
  all_goals exact nofun

theorem instrOwner_disconnect {i : Instr} (h : i ≠ .disconnect) : instrOwner i ≠ .disconnect := by
  cases i
  case disconnect => exact absurd rfl h
  all_goals exact nofun

theorem instrOwner_getpos {i : Instr} {a : Axis} (h : i ≠ .getpos a) : instrOwner i ≠ .getpos a := by
  cases i
  case getpos b => exact fun hb => h (Owner.getpos.inj hb ▸ rfl)
  all_goals exact nofun

theorem jobOwner_firstJob {cfg : Config} {i : Instr} {j : Job} (h : firstJob cfg i = some j) :
    jobOwner j = instrOwner i := by
  cases i <;> cases h <;> rfl

/-- The command in flight, if there is one, is a line of `o`'s. -/
def OwnedBy (o : Owner) (s : State) : Prop := ∀ j, s.job = some j → jobOwner j = o

/-- What a line, an event or a whole run of `o`'s command may do to a state, reset apart: R40 (e) and (f), and the frame
of R21, R23, R25 and R181. `Opening` is left by the write of a probe alone, which `CONNECT` runs. -/
structure Effect (o : Owner) (s t : State) : Prop where
  cfg : t.cfg = s.cfg := by simp
  inputs : t.inputs <:+ s.inputs := by simp
  owned : OwnedBy o s → OwnedBy o t := by exact id
  diag : s.diag ||| t.diag = t.diag := by simp
  txlog : s.txlog <+: t.txlog := by simp
  st : o ≠ .connect → o ≠ .disconnect → s.st ≠ .opening → t.st = s.st := by simp
  port : o ≠ .connect → t.port = s.port := by simp
  opens : o ≠ .connect → t.opens = s.opens := by simp
  lastpos : (∀ a, o ≠ .getpos a) → t.lastpos = s.lastpos := by simp
  lastposAt : ∀ a, o ≠ .getpos a → t.lastposAt a = s.lastposAt a := by simp [State.lastposAt]

variable {o : Owner} {s t u : State}

theorem Effect.refl : Effect o s s where

theorem Effect.trans (h₁ : Effect o s t) (h₂ : Effect o t u) : Effect o s u where
  cfg := h₂.cfg.trans h₁.cfg
  inputs := h₂.inputs.trans h₁.inputs
  owned h := h₂.owned (h₁.owned h)
  diag := by rw [← h₂.diag, ← BitVec.or_assoc, h₁.diag]
  txlog := h₁.txlog.trans h₂.txlog
  st hc hd ho := have h := h₁.st hc hd ho; (h₂.st hc hd (h ▸ ho)).trans h
  port hc := (h₂.port hc).trans (h₁.port hc)
  opens hc := (h₂.opens hc).trans (h₁.opens hc)
  lastpos hg := (h₂.lastpos hg).trans (h₁.lastpos hg)
  lastposAt a hg := (h₂.lastposAt a hg).trans (h₁.lastposAt a hg)

theorem effect_note (b : DiagBit) : Effect o s (s.note b) where
  diag := note_keeps_bits s b

theorem effect_goto {j : Job} (h : jobOwner j = o) : Effect o s (s.goto j) where
  owned _ _ hj := Option.some.inj hj ▸ h

theorem effect_finish (r : Result) : Effect o s (s.finish r) where
  owned _ _ hj := nomatch hj

theorem effect_accept : Effect o s s.accept where
theorem effect_lowerDone : Effect o s s.lowerDone where
theorem effect_txWrite (bs : List Byte) : Effect o s (s.txWrite bs) where
theorem effect_rxClear : Effect o s s.rxClear where
theorem effect_latchTimer (tmo : BitVec 16) : Effect o s (s.latchTimer tmo) where
theorem effect_countTick : Effect o s s.countTick where
theorem effect_setReady : Effect o s s.setReady where

theorem effect_leaveOpening : Effect o s s.leaveOpening where
  owned h := by simpa [OwnedBy] using h
  st _ _ ho := by rw [leaveOpening_other s ho]

theorem effect_setLastpos (a : Axis) (v : Word32) : Effect (.getpos a) s (s.setLastpos a v) where
  lastpos h := absurd rfl (h a)
  lastposAt b hb := setLastpos_lastposAt_other s a b v fun e => hb (e ▸ rfl)

theorem effect_setSt (x : SessionState) : Effect .connect s (s.setSt x) where
theorem effect_openPort (p : Nat) : Effect .connect s (s.openPort p) where

theorem effect_askOpen (p : Nat) : Effect .connect s (s.askOpen p) where
  owned h := by simpa [OwnedBy] using h

theorem effect_closePort (ho : o = .connect ∨ o = .disconnect) : Effect o s s.closePort where
  st hc hd := absurd ho (by simp [hc, hd])

theorem effect_arrive (b : Byte) : Effect o s (s.arrive b) := by
  obtain h | h | ⟨-, -, h⟩ := arrive_cases s b <;> rw [h]
  · exact .refl
  · exact effect_note .rxovr
  · exact {}

theorem effect_tickEvent (h : OwnedBy o s) : Effect o s s.tickEvent := by
  obtain ht | ⟨k, hk, ht⟩ := tickEvent_cases s <;> rw [ht]
  · exact .refl
  · exact effect_goto (j := .xchg k .count) (h (.xchg k .wait) hk)

theorem effect_returnPacket (k : XchgCaller) (p : Packet) : Effect (xchgOwner k) s (s.returnPacket k p) := by
  cases k with
  | exchange => exact effect_finish _
  | getpos a => exact effect_goto rfl
  | probe c => exact effect_goto rfl
  | clear => exact effect_goto rfl

theorem effect_xchgLine (k : XchgCaller) (l : XchgLine) : Effect (xchgOwner k) s (xchgLine k l s) := by
  cases l with
  | test p tmo => dsimp only [xchgLine]; split <;> exact effect_goto rfl
  | passDiag p => exact (effect_note _).trans (effect_goto rfl)
  | passReturn p => exact effect_returnPacket k p
  | write p tmo => exact (effect_txWrite _).trans (effect_leaveOpening.trans (effect_goto rfl))
  | latch tmo => exact (effect_latchTimer tmo).trans (effect_goto rfl)
  | avail => exact effect_goto rfl
  | check n => dsimp only [xchgLine]; split <;> exact effect_goto rfl
  | wait => exact .refl
  | count => exact effect_countTick.trans (effect_goto rfl)
  | drain => exact effect_rxClear.trans (effect_goto rfl)
  | ready r => exact effect_setReady.trans (effect_goto rfl)
  | short r =>
    dsimp only [xchgLine]
    split
    · exact (effect_note _).trans (effect_goto rfl)
    · exact effect_goto rfl
  | ret r => exact effect_returnPacket k (packetOf r)

theorem effect_probeLine (c : ProbeCaller) (l : ProbeLine) : Effect (probeOwner c) s (probeLine c l s) := by
  cases l with
  | compare r => exact effect_goto rfl
  | note ok =>
    cases ok with
    | true => exact effect_goto rfl
    | false => exact (effect_note _).trans (effect_goto rfl)
  | ret ok =>
    cases c with
    | isconnected => exact effect_finish _
    | connect rest => cases ok <;> exact effect_goto rfl

theorem effect_getposLine (a : Axis) (l : GetposLine) : Effect (.getpos a) s (getposLine a l s) := by
  cases l with
  | valid r => dsimp only [getposLine]; split <;> exact effect_goto rfl
  | chkbad => exact (effect_note _).trans (effect_goto rfl)
  | length r => dsimp only [getposLine]; split <;> exact effect_goto rfl
  | badlen => exact (effect_note _).trans (effect_goto rfl)
  | store w => exact (effect_setLastpos a _).trans (effect_goto rfl)
  | ret => exact effect_finish _

theorem effect_connectLine (rest : List Nat) (l : ConnectLine) : Effect .connect s (connectLine rest l s) := by
  cases l with
  | test auto port => dsimp only [connectLine]; split <;> exact effect_goto rfl
  | mode auto port => cases auto <;> exact effect_goto rfl
  | scan => cases rest <;> exact effect_goto rfl
  | ask p => dsimp only [connectLine]; split <;> exact (effect_askOpen p).trans (effect_goto rfl)
  | openfail => exact (effect_note _).trans (effect_goto rfl)
  | opening p => exact (effect_openPort p).trans (effect_goto rfl)
  | close => exact (effect_closePort (.inl rfl)).trans (effect_goto rfl)
  | clear => exact effect_goto rfl
  | idle => exact (effect_setSt _).trans (effect_goto rfl)
  | one ok => cases ok <;> exact effect_goto rfl
  | ret ok => exact effect_finish _

theorem effect_blockLine (h : OwnedBy o s) : Effect o s s.blockLine := by
  unfold State.blockLine
  split
  · exact .refl
  · exact h _ ‹_› ▸ effect_xchgLine _ _
  · exact h _ ‹_› ▸ effect_probeLine _ _
  · exact h _ ‹_› ▸ effect_getposLine _ _
  · exact h _ ‹_› ▸ effect_connectLine _ _

/-- Without a reset outside, what `o`'s command does to a state is an effect of `o`'s along the whole run. -/
theorem keptInRun_effect (hn : NoReset s) : KeptInRun fun u => OwnedBy o u ∧ Effect o s u where
  inputs _ _ _ hi hu hv := ⟨hv.1, { hv.2 with inputs := hi.trans hu.2.inputs }⟩
  arrive _ b hu := have he := effect_arrive b; ⟨he.owned hu.1, hu.2.trans he⟩
  tick _ hu := have he := effect_tickEvent hu.1; ⟨he.owned hu.1, hu.2.trans he⟩
  line _ hu := have he := effect_blockLine hu.1; ⟨he.owned hu.1, hu.2.trans he⟩
  reset _ _ hi hu := absurd (hu.2.inputs.subset (hi ▸ List.mem_cons_self)) hn

theorem effect_resume (hn : NoReset s) (h : OwnedBy o s) : Effect o s s.resume :=
  ((keptInRun_effect hn).resume ⟨h, .refl⟩).2

theorem effect_arriveAll (hn : NoReset s) (h : OwnedBy o s) (bs : List Byte) : Effect o s (s.arriveAll bs) :=
  ((keptInRun_effect hn).arriveAll bs ⟨h, .refl⟩).2

theorem ownedBy_of_not_busy (h : s.busy = false) : OwnedBy o s := by
  simp [OwnedBy, (busy_eq_false_iff s).1 h]

/-- The effect of an instruction that starts with no command in flight. -/
theorem effect_exec {i : Instr} (h : s.busy = false) (hn : NoReset s) (he : exec i s = .next t) :
    Effect (instrOwner i) s t := by
  obtain ⟨-, rfl⟩ | ⟨j, hj, rfl⟩ | ⟨rfl, rfl⟩ | ⟨c, rfl, rfl⟩ | ⟨-, p, rfl⟩ := exec_cases h he
  · rw [endedWith, ← accept_complete s h]
    exact effect_accept.trans (effect_finish _)
  · have hs : Effect (instrOwner i) s (started s j) := effect_accept.trans (effect_goto (jobOwner_firstJob hj))
    exact hs.trans (effect_resume hn (hs.owned (ownedBy_of_not_busy h)))
  · refine Effect.trans ?_ (effect_finish _)
    split
    · exact effect_accept
    · exact effect_accept.trans (effect_closePort (.inr rfl))
  · exact effect_accept.trans ((effect_note _).trans (effect_finish _))
  · exact effect_arriveAll hn (ownedBy_of_not_busy h) _

/-- Settles O56: the frame is read off the effect of the command. -/
theorem frameOfEveryCommand : Obligations.FrameOfEveryCommand := by
  intro s t i hc h hn he
  have hf := effect_exec h hn he
  have hst : s.st ≠ .opening := fun ho => by
    simpa [ho, (busy_eq_false_iff s).1 h, jobStates] using hc.st_ok
  refine ⟨hf.cfg, fun hi => ?_, fun hi => hf.lastpos fun a => instrOwner_getpos (hi a), fun a hi b hb => ?_⟩
  · have hi := instrOwner_connect hi
    exact ⟨hf.port hi, hf.opens hi, fun hd => hf.st hi (instrOwner_disconnect hd) hst⟩
  · exact hf.lastposAt b (hi ▸ fun hg => hb (Owner.getpos.inj hg).symm)

/-- An event between commands, reset apart, has an effect on the registers that every command may have. -/
theorem effect_idleEvent {e : Input} (he : e ≠ .reset) : Effect o s (s.idleEvent e) := by
  cases e with
  | rx b => exact effect_arrive b
  | reset => exact absurd rfl he
  | tick | go | await | look | word w => exact .refl

/-- Without a reset outside, a step is an effect of some command. -/
theorem effect_step (hn : NoReset s) (hs : step s = .next t) : ∃ o, Effect o s t := by
  have hin : ∀ o e ins, s.inputs = e :: ins → Effect o s { s.lowerDone with inputs := ins } := fun o e ins hi =>
    { effect_lowerDone with inputs := hi ▸ List.suffix_cons e ins }
  obtain ⟨hb, rfl⟩ | ⟨hb, hi, rfl⟩ | ⟨e, ins, hb, hi, -, rfl⟩ | ⟨w, ins, i, hb, hi, -, he⟩ := step_cases hs
  · obtain ⟨j, hj⟩ := Option.isSome_iff_exists.1 hb
    exact ⟨jobOwner j, effect_lowerDone.trans (effect_resume hn fun j' hj' => by simp_all)⟩
  · exact ⟨.other, effect_lowerDone⟩
  · have he : e ≠ .reset := fun h => hn (h ▸ hi ▸ List.mem_cons_self)
    exact ⟨.other, (hin _ e ins hi).trans (effect_idleEvent he)⟩
  · have hn' : NoReset { s.lowerDone with inputs := ins } := fun h => hn (hi ▸ List.mem_cons_of_mem _ h)
    exact ⟨instrOwner i, (hin _ _ ins hi).trans (effect_exec (s := { s.lowerDone with inputs := ins }) hb hn' he)⟩

/-- Settles O12: `DIAG` sticks and `TXLOG` grows in every effect. -/
theorem diagSticksAndTxlogGrows : Obligations.DiagSticksAndTxlogGrows := by
  intro s t hn hs
  obtain ⟨o, he⟩ := effect_step hn hs
  exact ⟨he.diag, he.txlog⟩

/-! ### `DIAG` is read by nothing -/

/-- R32: the states differ in `DIAG` at most. -/
def SameButDiag (s t : State) : Prop := ∃ d, t = { s with diag := d }

variable {s' t' : State}

theorem SameButDiag.st (h : SameButDiag s t) : t.st = s.st := by obtain ⟨d, rfl⟩ := h; rfl
theorem SameButDiag.job (h : SameButDiag s t) : t.job = s.job := by obtain ⟨d, rfl⟩ := h; rfl
theorem SameButDiag.cfg (h : SameButDiag s t) : t.cfg = s.cfg := by obtain ⟨d, rfl⟩ := h; rfl
theorem SameButDiag.inputs (h : SameButDiag s t) : t.inputs = s.inputs := by obtain ⟨d, rfl⟩ := h; rfl
theorem SameButDiag.busy (h : SameButDiag s t) : t.busy = s.busy := by obtain ⟨d, rfl⟩ := h; rfl
theorem SameButDiag.rxFull (h : SameButDiag s t) : t.rxFull = s.rxFull := by obtain ⟨d, rfl⟩ := h; rfl
theorem SameButDiag.timedOut (h : SameButDiag s t) : t.timedOut = s.timedOut := by obtain ⟨d, rfl⟩ := h; rfl
theorem SameButDiag.openOk (h : SameButDiag s t) (p : Nat) : t.openOk p = s.openOk p := by obtain ⟨d, rfl⟩ := h; rfl

theorem SameButDiag.note (h : SameButDiag s t) (b : DiagBit) : SameButDiag (s.note b) (t.note b) := by
  obtain ⟨d, rfl⟩ := h
  exact ⟨d ||| b.mask, rfl⟩

/-- An operation that reads and writes other registers only. -/
theorem SameButDiag.map (h : SameButDiag s t) (f : State → State)
    (hf : ∀ s d, f { s with diag := d } = { f s with diag := d }) : SameButDiag (f s) (f t) := by
  obtain ⟨d, rfl⟩ := h
  exact ⟨d, hf s d⟩

theorem SameButDiag.goto (h : SameButDiag s t) (j : Job) : SameButDiag (s.goto j) (t.goto j) :=
  h.map (·.goto j) fun _ _ => rfl

theorem SameButDiag.finish (h : SameButDiag s t) (r : Result) : SameButDiag (s.finish r) (t.finish r) :=
  h.map (·.finish r) fun _ _ => rfl

theorem SameButDiag.withInputs (h : SameButDiag s t) (ins : List Input) :
    SameButDiag { s with inputs := ins } { t with inputs := ins } :=
  h.map (fun s => { s with inputs := ins }) fun _ _ => rfl

theorem SameButDiag.ite (h₁ : SameButDiag s t) (h₂ : SameButDiag s' t') {c c' : Prop} [Decidable c] [Decidable c']
    (hc : c' ↔ c) : SameButDiag (if c then s else s') (if c' then t else t') := by
  by_cases h : c
  · simpa [h, hc.2 h] using h₁
  · simpa [h, mt hc.1 h] using h₂

theorem SameButDiag.doReset (h : SameButDiag s t) : SameButDiag s.doReset t.doReset := by
  obtain ⟨d, rfl⟩ := h
  exact ⟨0x00#8, rfl⟩

theorem SameButDiag.leaveOpening (h : SameButDiag s t) : SameButDiag s.leaveOpening t.leaveOpening := by
  by_cases ho : s.st = .opening
  · rw [leaveOpening_opening s ho, leaveOpening_opening t (h.st.trans ho)]
    exact h.map (·.setSt .probing) fun _ _ => rfl
  · rwa [leaveOpening_other s ho, leaveOpening_other t (h.st ▸ ho)]

theorem SameButDiag.askOpen (h : SameButDiag s t) (p : Nat) : SameButDiag (s.askOpen p) (t.askOpen p) :=
  (h.map (fun s => { s with opens := s.opens.tail }) fun _ _ => rfl).ite h (by rw [h.cfg])

theorem SameButDiag.arrive (h : SameButDiag s t) (b : Byte) : SameButDiag (s.arrive b) (t.arrive b) := by
  by_cases hst : s.st = .closed
  · rwa [arrive_closed s b hst, arrive_closed t b (h.st.trans hst)]
  · have hst' : t.st ≠ .closed := h.st ▸ hst
    cases hf : s.rxFull with
    | true =>
      rw [arrive_full s b hst hf, arrive_full t b hst' (h.rxFull.trans hf)]
      exact h.note .rxovr
    | false =>
      rw [arrive_room s b hst hf, arrive_room t b hst' (h.rxFull.trans hf)]
      exact h.map (fun s => { s with rxq := s.rxq ++ [b] }) fun _ _ => rfl

theorem SameButDiag.arriveAll (h : SameButDiag s t) (bs : List Byte) : SameButDiag (s.arriveAll bs) (t.arriveAll bs) := by
  induction bs generalizing s t with
  | nil => exact h
  | cons b bs ih => exact ih (h.arrive b)

theorem sameButDiag_returnPacket (h : SameButDiag s t) (k : XchgCaller) (p : Packet) :
    SameButDiag (s.returnPacket k p) (t.returnPacket k p) := by
  cases k with
  | exchange => exact h.finish _
  | getpos a => exact h.goto _
  | probe c => exact h.goto _
  | clear => exact h.goto _

theorem sameButDiag_xchgLine (h : SameButDiag s t) (k : XchgCaller) (l : XchgLine) :
    SameButDiag (xchgLine k l s) (xchgLine k l t) := by
  cases l with
  | test p tmo => exact (h.goto _).ite (h.goto _) (by rw [h.st])
  | passDiag p => exact (h.note _).goto _
  | passReturn p => exact sameButDiag_returnPacket h k p
  | write p tmo => exact (h.map (·.txWrite (bytesOf p)) fun _ _ => rfl).leaveOpening.goto _
  | latch tmo => exact h.map (xchgLine k (.latch tmo)) fun _ _ => rfl
  | avail => exact h.map (xchgLine k .avail) fun _ _ => rfl
  | check n => exact (h.goto _).ite (h.goto _) (by rw [h.timedOut])
  | wait => exact h
  | count => exact h.map (xchgLine k .count) fun _ _ => rfl
  | drain => exact h.map (xchgLine k .drain) fun _ _ => rfl
  | ready r => exact h.map (xchgLine k (.ready r)) fun _ _ => rfl
  | short r => exact ((h.note _).goto _).ite (h.goto _) Iff.rfl
  | ret r => exact sameButDiag_returnPacket h k (packetOf r)

theorem sameButDiag_probeLine (h : SameButDiag s t) (c : ProbeCaller) (l : ProbeLine) :
    SameButDiag (probeLine c l s) (probeLine c l t) := by
  cases l with
  | compare r => exact h.goto _
  | note ok => exact (h.goto _).ite ((h.note _).goto _) Iff.rfl
  | ret ok =>
    cases c with
    | isconnected => exact h.finish _
    | connect rest => exact (h.goto _).ite (h.goto _) Iff.rfl

theorem sameButDiag_getposLine (h : SameButDiag s t) (a : Axis) (l : GetposLine) :
    SameButDiag (getposLine a l s) (getposLine a l t) := by
  cases l with
  | valid r => exact (h.goto _).ite (h.goto _) Iff.rfl
  | chkbad => exact (h.note _).goto _
  | length r => dsimp only [getposLine]; split <;> exact h.goto _
  | badlen => exact (h.note _).goto _
  | store w => exact h.map (getposLine a (.store w)) fun _ _ => rfl
  | ret => exact h.map (getposLine a .ret) fun _ _ => rfl

theorem sameButDiag_connectLine (h : SameButDiag s t) (rest : List Nat) (l : ConnectLine) :
    SameButDiag (connectLine rest l s) (connectLine rest l t) := by
  cases l with
  | test auto port => exact (h.goto _).ite (h.goto _) (by rw [h.st])
  | mode auto port =>
    cases auto with
    | true => exact h.map (connectLine rest (.mode true port)) fun _ _ => rfl
    | false => exact h.goto _
  | scan => cases rest <;> exact h.goto _
  | ask p => exact ((h.askOpen p).goto _).ite ((h.askOpen p).goto _) (by rw [h.openOk])
  | openfail => exact (h.note _).goto _
  | opening p => exact h.map (connectLine rest (.opening p)) fun _ _ => rfl
  | close => exact h.map (connectLine rest .close) fun _ _ => rfl
  | clear => exact h.map (connectLine rest .clear) fun _ _ => rfl
  | idle => exact h.map (connectLine rest .idle) fun _ _ => rfl
  | one ok => exact (h.goto _).ite (h.goto _) Iff.rfl
  | ret ok => exact h.finish _

theorem SameButDiag.blockLine (h : SameButDiag s t) : SameButDiag s.blockLine t.blockLine := by
  unfold State.blockLine
  rw [h.job]
  split
  · exact h
  · exact sameButDiag_xchgLine h _ _
  · exact sameButDiag_probeLine h _ _
  · exact sameButDiag_getposLine h _ _
  · exact sameButDiag_connectLine h _ _

theorem SameButDiag.tickEvent (h : SameButDiag s t) : SameButDiag s.tickEvent t.tickEvent := by
  unfold State.tickEvent
  rw [h.job]
  split
  · exact h.goto _
  · exact h

theorem SameButDiag.turn (h : SameButDiag s t) : SameButDiag s.turn t.turn := by
  unfold State.turn
  rw [h.job]
  split
  · exact h.tickEvent
  · exact h.blockLine

theorem SameButDiag.cycle (h : SameButDiag s t) : SameButDiag s.cycle t.cycle := by
  unfold State.cycle
  rw [h.inputs]
  split
  · exact h.turn
  · exact (h.withInputs _).arrive _
  · exact (h.withInputs _).tickEvent
  · exact (h.withInputs _).blockLine
  · exact h.turn.ite (h.turn.withInputs _) (by rw [h.turn.busy])
  · exact h.withInputs _
  · exact (h.withInputs _).doReset
  · simpa only [h.cfg] using (h.withInputs _).arriveAll (receivedBytes s.cfg _)

theorem SameButDiag.runFor (h : SameButDiag s t) (n : Nat) : SameButDiag (s.runFor n) (t.runFor n) := by
  induction n generalizing s t with
  | zero => exact h
  | succ n ih =>
    unfold State.runFor
    rw [h.inputs]
    refine SameButDiag.ite ?_ h (by rw [h.busy])
    split
    · exact h.withInputs _
    · exact ih h.cycle

theorem SameButDiag.resume (h : SameButDiag s t) : SameButDiag s.resume t.resume := by
  have hb : t.bound = s.bound := by obtain ⟨d, rfl⟩ := h; rfl
  unfold State.resume
  rw [hb]
  exact h.runFor _

theorem SameButDiag.idleEvent (h : SameButDiag s t) (e : Input) : SameButDiag (s.idleEvent e) (t.idleEvent e) := by
  cases e with
  | rx b => exact h.arrive b
  | reset => exact h.doReset
  | tick | go | await | look | word w => exact h

theorem SameButDiag.accept (h : SameButDiag s t) : SameButDiag s.accept t.accept := h.map (·.accept) fun _ _ => rfl

/-- With no command in flight, an instruction's answers from states that differ in `DIAG` differ in `DIAG`. -/
theorem sameButDiag_exec {i : Instr} (h : SameButDiag s s') (hb : s.busy = false) (he : exec i s = .next t) :
    ∃ t', exec i s' = .next t' ∧ SameButDiag t t' := by
  have hb' : s'.busy = false := h.busy.trans hb
  obtain hp | ⟨j, hj⟩ | rfl | ⟨c, rfl⟩ | ha := instr_kinds s.cfg i
  · rw [exec_pure hp hb] at he
    cases he
    refine ⟨_, exec_pure hp hb', ?_⟩
    rw [h.cfg]
    exact h.map (endedWith · _) fun _ _ => rfl
  · rw [exec_firstJob hj hb] at he
    cases he
    exact ⟨_, exec_firstJob (h.cfg ▸ hj) hb', (h.accept.goto j).resume⟩
  · rw [exec_disconnect hb] at he
    cases he
    refine ⟨_, exec_disconnect hb', SameButDiag.finish ?_ _⟩
    exact h.accept.ite (h.accept.map (·.closePort) fun _ _ => rfl) (by rw [h.st])
  · rw [exec_reserved c hb] at he
    cases he
    exact ⟨_, exec_reserved c hb', (h.accept.note _).finish _⟩
  · obtain ⟨p, hp⟩ := exec_arrival ha
    rw [hp] at he
    cases he
    exact ⟨_, hp s', h.arriveAll _⟩

theorem sameButDiag_step (h : SameButDiag s s') (hs : step s = .next t) :
    ∃ t', step s' = .next t' ∧ SameButDiag t t' := by
  have hd : SameButDiag s.lowerDone s'.lowerDone := h.map (·.lowerDone) fun _ _ => rfl
  obtain ⟨hb, rfl⟩ | ⟨hb, hi, rfl⟩ | ⟨e, ins, hb, hi, hw, rfl⟩ | ⟨w, ins, i, hb, hi, hw, he⟩ := step_cases hs
  · exact ⟨_, step_busy s' (h.busy.trans hb), hd.resume⟩
  · exact ⟨_, step_nothing s' (h.busy.trans hb) (h.inputs.trans hi), hd⟩
  · exact ⟨_, step_event s' e ins (h.busy.trans hb) (h.inputs.trans hi) hw, (hd.withInputs ins).idleEvent e⟩
  · rw [step_word (h.busy.trans hb) (h.inputs.trans hi) (h.cfg ▸ hw)]
    exact sameButDiag_exec (hd.withInputs ins) hb he

/-- Settles O13: the answers of a step from states that differ in `DIAG` differ in `DIAG`. -/
theorem diagIsReadByNothing : Obligations.DiagIsReadByNothing := by
  intro s t d hs
  obtain ⟨_, ht, d', rfl⟩ := sameButDiag_step ⟨d, rfl⟩ hs
  exact ⟨d', ht⟩

/-! ### The handshake and the ticks -/

/-- Settles O19, by the four values of `ST`. -/
theorem connFollowsSt : Obligations.ConnFollowsSt := by
  intro s
  refine ⟨?_, ?_, ?_, ?_⟩ <;> intro h <;> simp [State.conn, h, SessionState.code, ConnStatus.code]

/-- Settles O20: a tick is an event of its own in a cycle and in a step, and `wait` is the only line it moves on. -/
theorem ticksCountOnlyWhileAnExchangeWaits : Obligations.TicksCountOnlyWhileAnExchangeWaits := by
  intro s ins hi
  refine ⟨fun k hk => ?_, fun hk => ?_, fun hb => ?_, fun k hk => ?_⟩
  · exact (cycle_tick s ins hi).trans (tickEvent_waiting _ k hk)
  · exact (cycle_tick s ins hi).trans (tickEvent_other _ hk)
  · exact step_event s .tick ins hb hi nofun
  · exact blockLine_xchg s k .count hk

/-- Reset apart, an event between commands leaves the result port as it is. -/
theorem idleEvent_result {e : Input} (he : e ≠ .reset) : (s.idleEvent e).result = s.result := by
  cases e with
  | rx b => exact arrive_result s b
  | reset => exact absurd rfl he
  | tick | go | await | look | word w => rfl

/-- Settles O21: of the things a step can do, those left by the premises keep the result. -/
theorem resultIsHeldUntilTheNextCommand : Obligations.ResultIsHeldUntilTheNextCommand := by
  intro s t hb hw hr hs
  obtain ⟨hb', -⟩ | ⟨-, -, rfl⟩ | ⟨e, ins, -, hi, -, rfl⟩ | ⟨w, ins, -, -, hi, -, -⟩ := step_cases hs
  · simp [hb] at hb'
  · rfl
  · exact idleEvent_result fun he => hr (by simp [hi, he])
  · exact absurd hi (hw w ins)

/-! ### The decoder gives well-formed instructions -/

theorem withPkt_ok {args : Args} {f : Packet → Instr} {i : Instr} (h : withPkt args f = .ok i) :
    i = f args.pkt ∧ args.pkt.fitsPort = true := by
  unfold withPkt at h
  split at h
  next hl => exact ⟨(Except.ok.inj h).symm, decide_eq_true hl⟩
  next => cases h

theorem withBytes_ok {cfg : Config} {args : Args} {f : List Byte → Instr} {i : Instr} (h : withBytes cfg args f = .ok i) :
    i = f args.bytes ∧ bytesFit cfg args.bytes = true := by
  unfold withBytes at h
  split at h
  next hl => exact ⟨(Except.ok.inj h).symm, hl⟩
  next => cases h

/-- R98, R101: what the decoder reads from the command port fits it, and a reserved code is none of R100's. -/
theorem decodeCmd_wellFormed {cfg : Config} {code : Byte} {args : Args} {i : Instr}
    (h : decodeCmd cfg code args = .ok i) : WellFormed cfg i = true := by
  unfold decodeCmd at h
  split at h
  case h_1 => obtain ⟨rfl, hp⟩ := withPkt_ok h; exact hp
  case h_2 => obtain ⟨rfl, hp⟩ := withBytes_ok h; exact hp
  case h_3 => obtain ⟨rfl, hp⟩ := withPkt_ok h; exact hp
  case h_4 => obtain ⟨rfl, hp⟩ := withPkt_ok h; exact hp
  case h_21 => obtain ⟨rfl, hp⟩ := withPkt_ok h; exact hp
  case h_23 =>
    cases h
    have hc : code ∉ commandCodes := by
      intro hm
      simp only [commandCodes, List.cons_append, List.nil_append, List.mem_cons, List.not_mem_nil, or_false] at hm
      rcases hm with rfl | rfl | rfl | rfl | rfl | rfl | rfl | rfl | rfl | rfl | rfl | rfl | rfl | rfl | rfl | rfl | rfl |
        rfl | rfl | rfl | rfl | rfl <;> contradiction
    simpa [WellFormed] using hc
  all_goals cases h; rfl

theorem wellFormed_ite {cfg : Config} {c : Prop} [Decidable c] {i j : Instr} (hi : c → WellFormed cfg i = true)
    (hj : ¬c → WellFormed cfg j = true) : WellFormed cfg (if c then i else j) = true := by
  split
  · exact hi ‹_›
  · exact hj ‹_›

/-- R308: a packet is classified as `WIRE.STARTMOVE` only where that row has a word of its own, and as `WIRE.GENERIC` only
when no other row fits. -/
theorem classifyPacket_wellFormed (cfg : Config) (p : Packet) : WellFormed cfg (classifyPacket cfg p) = true := by
  unfold classifyPacket
  dsimp only
  iterate 7 refine wellFormed_ite (fun _ => rfl) fun _ => ?_
  refine wellFormed_ite (fun hs => ?_) fun _ => ?_
  · have hw : cfg.trajSubcmd = .payloadWord := by
      cases ht : cfg.trajSubcmd with
      | payloadWord => rfl
      | none =>
        have hh : p ≠ rowHome cfg (p.node.extractLsb' 0 3) p.checksum := ‹_›
        refine absurd (hs.trans ?_) hh
        simp only [rowHome, rowStartmove, ht]
    exact decide_eq_true hw
  · iterate 2 refine wellFormed_ite (fun _ => rfl) fun _ => ?_
    -- No row fits, so the classification of `p` is `WIRE.GENERIC`, which is what `WellFormed` asks of it.
    refine decide_eq_true ?_
    unfold classifyPacket
    dsimp only
    iterate 10 rw [if_neg ‹_›]

theorem decodeWire_wellFormed {cfg : Config} {bs : List Byte} {i : Instr} (h : decodeWire cfg bs = .ok i) :
    WellFormed cfg i = true := by
  unfold decodeWire at h
  split at h
  · cases h
    exact classifyPacket_wellFormed cfg _
  · cases h

theorem decode_wellFormed {cfg : Config} {w : PortWord} {i : Instr} (h : decode cfg w = .ok i) :
    WellFormed cfg i = true := by
  cases w with
  | cmd code args => exact decodeCmd_wellFormed h
  | wire bs => exact decodeWire_wellFormed h

/-! ### The invariant, split by what its clauses speak of -/

/-- The clauses of `Coherent` that hold whatever line is next. -/
structure RegistersOk (s : State) : Prop where
  cfg_wf : s.cfg.wf = true
  rx_closed : s.st = .closed → s.rxq = []
  rx_depth : ∀ d, s.cfg.rxDepth = some d → s.rxq.length ≤ d
  el_step : s.el.toNat % 100 = 0
  el_max : s.el.toNat ≤ 65600
  el_poll : s.ph = .poll → s.el.toNat < s.tmo.toNat + 100
  port_ok : s.port < s.cfg.nPorts
  result_fits : resultFits s.cfg s.result = true

/-- The clauses of `Coherent` that tie the registers to a line `j`, which is next or is about to be. -/
structure ReadyFor (s : State) (j : Job) : Prop where
  st_ok : s.st ∈ jobStates (some j)
  ph_ok : s.ph = .poll ↔ jobPolls (some j) = true
  el_wait : jobCounts (some j) = true → s.el.toNat < s.tmo.toNat := by exact nofun
  opens_ok : jobOpens (some j) s.cfg.nPorts := by exact trivial
  no_result : s.result = none ∧ s.done = false
  args_fit : jobFits s.cfg (some j) = true := by exact rfl

/-- R40 (c): the clauses of `Coherent` for a block with no command in flight. -/
structure AtRest (s : State) : Prop where
  st_ok : s.st = .closed ∨ s.st = .idle
  ph_ok : s.ph = .ready

theorem registersOk_of_coherent (h : Coherent s) : RegistersOk s := { h with }

theorem readyFor_of_coherent {j : Job} (h : Coherent s) (hj : s.job = some j) : ReadyFor s j where
  st_ok := hj ▸ h.st_ok
  ph_ok := hj ▸ h.ph_ok
  el_wait := hj ▸ h.el_wait
  opens_ok := hj ▸ h.opens_ok
  no_result := h.busy_result (hj ▸ Option.some_ne_none j)
  args_fit := hj ▸ h.args_fit

theorem atRest_of_coherent (h : Coherent s) (hj : s.job = none) : AtRest s where
  st_ok := by simpa [hj, jobStates] using h.st_ok
  ph_ok := by
    have hp := h.ph_ok
    cases hs : s.ph <;> simp_all [jobPolls]

theorem coherent_goto {j : Job} (hr : RegistersOk s) (hj : ReadyFor s j) : Coherent (s.goto j) :=
  { hr, hj with busy_result := fun _ => hj.no_result }

theorem coherent_of_job_none (hr : RegistersOk s) (ha : AtRest s) (hj : s.job = none) : Coherent s :=
  { hr with
    st_ok := by simpa [hj, jobStates] using ha.st_ok
    ph_ok := by simp [hj, ha.ph_ok, jobPolls]
    el_wait := by simp [hj, jobCounts]
    opens_ok := by simp [hj, jobOpens]
    busy_result := fun h => absurd hj h
    args_fit := by simp [hj, jobFits] }

theorem coherent_finish {r : Result} (hr : RegistersOk s) (ha : AtRest s) (hf : resultFits s.cfg (some r) = true) :
    Coherent (s.finish r) :=
  coherent_of_job_none { hr with result_fits := hf } { ha with } rfl

/-! ### Each operation keeps the registers' clauses -/

theorem RegistersOk.note (h : RegistersOk s) (b : DiagBit) : RegistersOk (s.note b) := { h with }

theorem RegistersOk.accept (h : RegistersOk s) : RegistersOk s.accept := { h with result_fits := rfl }

theorem RegistersOk.txWrite (h : RegistersOk s) (bs : List Byte) : RegistersOk (s.txWrite bs) := { h with }

theorem RegistersOk.setLastpos (h : RegistersOk s) (a : Axis) (v : Word32) : RegistersOk (s.setLastpos a v) := { h with }

theorem RegistersOk.leaveOpening (h : RegistersOk s) : RegistersOk s.leaveOpening := by
  by_cases ho : s.st = .opening
  · rw [leaveOpening_opening s ho]
    exact { h with rx_closed := nofun }
  · rwa [leaveOpening_other s ho]

theorem RegistersOk.latchTimer (h : RegistersOk s) (tmo : BitVec 16) : RegistersOk (s.latchTimer tmo) :=
  { h with el_step := rfl, el_max := by simp, el_poll := by simp }

/-- R27: an exchange that waits has `EL < TMO`, so the count does not leave the 17 bits of `EL`. -/
theorem countTick_toNat (hw : s.el.toNat < s.tmo.toNat) :
    s.countTick.el.toNat = s.el.toNat + 100 := by
  have := s.tmo.isLt
  simp only [countTick_el, BitVec.toNat_add, BitVec.toNat_ofNat]
  omega

theorem RegistersOk.countTick (h : RegistersOk s) (hw : s.el.toNat < s.tmo.toNat) : RegistersOk s.countTick := by
  have he := countTick_toNat hw
  have hm := h.el_step
  have ht := s.tmo.isLt
  refine { h with el_step := ?_, el_max := ?_, el_poll := fun _ => ?_ } <;> rw [he]
  · omega
  · omega
  · exact Nat.add_lt_add_right hw 100

theorem RegistersOk.rxClear (h : RegistersOk s) : RegistersOk s.rxClear :=
  { h with rx_closed := fun _ => rfl, rx_depth := fun _ _ => Nat.zero_le _ }

theorem RegistersOk.setReady (h : RegistersOk s) : RegistersOk s.setReady := { h with el_poll := nofun }

theorem RegistersOk.setSt (h : RegistersOk s) {x : SessionState} (hx : x ≠ .closed) : RegistersOk (s.setSt x) :=
  { h with rx_closed := fun hc => absurd hc hx }

theorem RegistersOk.openPort (h : RegistersOk s) {p : Nat} (hp : p < s.cfg.nPorts) : RegistersOk (s.openPort p) :=
  { h.rxClear with rx_closed := nofun, port_ok := hp }

theorem RegistersOk.closePort (h : RegistersOk s) : RegistersOk s.closePort :=
  { h.rxClear with rx_closed := fun _ => rfl, el_poll := nofun }

theorem RegistersOk.askOpen (h : RegistersOk s) (p : Nat) : RegistersOk (s.askOpen p) := by
  unfold State.askOpen
  split <;> exact { h with }

/-- R54: a byte is appended only where the queue has room. -/
theorem length_lt_of_not_rxFull (h : s.rxFull = false) {d : Nat} (hd : s.cfg.rxDepth = some d) : s.rxq.length < d := by
  simpa [rxFull_bounded s d hd] using h

theorem coherent_arrive (h : Coherent s) (b : Byte) : Coherent (s.arrive b) := by
  obtain he | he | ⟨hst, hf, he⟩ := arrive_cases s b <;> rw [he]
  · exact h
  · exact { h with }
  · refine { h with rx_closed := fun hc => absurd hc hst, rx_depth := fun d hd => ?_ }
    simpa using length_lt_of_not_rxFull hf hd

/-! ### The session states around an exchange (R181) -/

/-- The session state in which an exchange that has written waits and ends. -/
def writtenState : XchgCaller → SessionState
  | .probe (.connect _) => .probing
  | .clear => .probing
  | _ => .idle

/-- The session states in which the caller of an exchange takes its packet. -/
def returnStates : XchgCaller → List SessionState
  | .probe (.connect _) => [.probing]
  | .clear => [.probing]
  | _ => [.closed, .idle]

/-- The lines of `xchg` after the write. -/
def isAfterWrite : XchgLine → Bool
  | .test _ _ | .passDiag _ | .passReturn _ | .write _ _ => false
  | _ => true

theorem mem_xchgStates_afterWrite {k : XchgCaller} {l : XchgLine} {x : SessionState} (hl : isAfterWrite l = true) :
    x ∈ xchgStates k l ↔ x = writtenState k := by
  rcases k with _ | _ | (_ | _) | _ <;> cases l <;> cases hl <;> exact List.mem_singleton

theorem writtenState_mem_returnStates (k : XchgCaller) : writtenState k ∈ returnStates k := by
  rcases k with _ | _ | (_ | _) | _ <;> simp [writtenState, returnStates]

/-- Where `ST = Closed` can be found by the test, the packet is passed through. -/
theorem closed_mem_passDiag {k : XchgCaller} {p : Packet} {tmo : BitVec 16} (h : .closed ∈ xchgStates k (.test p tmo)) :
    .closed ∈ xchgStates k (.passDiag p) := by
  rcases k with _ | _ | (_ | _) | _ <;> simp_all [xchgStates]

theorem mem_write_of_not_closed {k : XchgCaller} {x : SessionState} {p : Packet} {tmo : BitVec 16}
    (h : x ∈ xchgStates k (.test p tmo)) (hx : x ≠ .closed) : x ∈ xchgStates k (.write p tmo) := by
  rcases k with _ | _ | (_ | _) | _ <;> simp_all [xchgStates]

theorem mem_passReturn {k : XchgCaller} {x : SessionState} {p : Packet} (h : x ∈ xchgStates k (.passDiag p)) :
    x ∈ xchgStates k (.passReturn p) := by
  rcases k with _ | _ | (_ | _) | _ <;> exact h

theorem mem_returnStates_of_passReturn {k : XchgCaller} {x : SessionState} {p : Packet}
    (h : x ∈ xchgStates k (.passReturn p)) : x ∈ returnStates k := by
  rcases k with _ | _ | (_ | _) | _ <;> simp_all [xchgStates, returnStates]

/-- R183: after the step of the write `Opening` has become `Probing`. -/
theorem leaveOpening_writtenState {k : XchgCaller} {p : Packet} {tmo : BitVec 16} (h : s.st ∈ xchgStates k (.write p tmo)) :
    s.leaveOpening.st = writtenState k := by
  by_cases ho : s.st = .opening
  · rw [leaveOpening_opening s ho]
    rcases k with _ | _ | (_ | _) | _ <;> simp_all [xchgStates, writtenState]
  · rw [leaveOpening_other s ho]
    rcases k with _ | _ | (_ | _) | _ <;> simp_all [xchgStates, writtenState]

/-! ### Each line keeps the invariant -/

/-- From a line to one in the same phase, the registers and the result port as they are. -/
theorem ReadyFor.next {j j' : Job} (h : ReadyFor s j) (hst : s.st ∈ jobStates (some j'))
    (hp : jobPolls (some j') = jobPolls (some j) := by exact rfl)
    (hw : jobCounts (some j') = true → s.el.toNat < s.tmo.toNat := by exact nofun)
    (ho : jobOpens (some j') s.cfg.nPorts := by exact trivial)
    (hf : jobFits s.cfg (some j') = true := by exact rfl) : ReadyFor s j' where
  st_ok := hst
  ph_ok := hp ▸ h.ph_ok
  el_wait := hw
  opens_ok := ho
  no_result := h.no_result
  args_fit := hf

/-- A line after the write of an exchange to another such line. -/
theorem ReadyFor.st_afterWrite {k : XchgCaller} {l l' : XchgLine} (h : ReadyFor s (.xchg k l))
    (hl : isAfterWrite l = true := by exact rfl) (hl' : isAfterWrite l' = true := by exact rfl) :
    s.st ∈ jobStates (some (.xchg k l')) :=
  (mem_xchgStates_afterWrite hl').2 ((mem_xchgStates_afterWrite hl).1 h.st_ok)

theorem ReadyFor.ph_ready {j : Job} (h : ReadyFor s j) (hj : jobPolls (some j) = false := by exact rfl) :
    s.ph = .ready := by
  have hp := h.ph_ok
  cases hs : s.ph <;> simp_all

theorem coherent_returnPacket {k : XchgCaller} {j : Job} {p : Packet} (hr : RegistersOk s) (hj : ReadyFor s j)
    (hst : s.st ∈ returnStates k) (hp : jobPolls (some j) = false) (hf : bytesFit s.cfg (bytesOf p) = true) :
    Coherent (s.returnPacket k p) := by
  cases k with
  | exchange => exact coherent_finish hr ⟨by simpa [returnStates] using hst, hj.ph_ready hp⟩ hf
  | getpos a => exact coherent_goto hr (hj.next hst hp.symm)
  | probe c => cases c <;> exact coherent_goto hr (hj.next hst hp.symm)
  | clear => exact coherent_goto hr (hj.next hst hp.symm)

theorem coherent_xchgLine {k : XchgCaller} {l : XchgLine} (h : Coherent s) (hj : s.job = some (.xchg k l)) :
    Coherent (xchgLine k l s) := by
  have hr := registersOk_of_coherent h
  have hl := readyFor_of_coherent h hj
  cases l with
  | test p tmo =>
    dsimp only [xchgLine]
    split
    next hc => exact coherent_goto hr (hl.next (hc ▸ closed_mem_passDiag (hc ▸ hl.st_ok)) (hf := hl.args_fit))
    next hc => exact coherent_goto hr (hl.next (mem_write_of_not_closed hl.st_ok hc) (hf := hl.args_fit))
  | passDiag p =>
    have hn : ReadyFor (s.note .passthru) (.xchg k (.passDiag p)) := { hl with }
    exact coherent_goto (hr.note _) (hn.next (mem_passReturn hl.st_ok) (hf := hl.args_fit))
  | passReturn p =>
    exact coherent_returnPacket hr hl (mem_returnStates_of_passReturn hl.st_ok) rfl
      (bytesFit_of_fitsPort _ _ hr.cfg_wf hl.args_fit)
  | write p tmo =>
    have hst : (s.txWrite (bytesOf p)).leaveOpening.st = writtenState k := leaveOpening_writtenState hl.st_ok
    refine coherent_goto (hr.txWrite _).leaveOpening ?_
    exact {
      st_ok := (mem_xchgStates_afterWrite rfl).2 hst
      ph_ok := by simp [hl.ph_ready, jobPolls]
      no_result := by simpa using hl.no_result }
  | latch tmo =>
    exact coherent_goto (hr.latchTimer tmo)
      { st_ok := hl.st_afterWrite, ph_ok := by simp [jobPolls], no_result := hl.no_result }
  | avail => exact coherent_goto hr (hl.next hl.st_afterWrite)
  | check n =>
    dsimp only [xchgLine]
    split
    · exact coherent_goto hr (hl.next hl.st_afterWrite)
    next hn =>
      have hw : s.el.toNat < s.tmo.toNat := by
        have ht : ¬ s.timedOut = true := fun ht => hn (.inr ht)
        simpa [timedOut_iff] using ht
      exact coherent_goto hr (hl.next hl.st_afterWrite (hw := fun _ => hw))
  | wait => exact h
  | count =>
    exact coherent_goto (hr.countTick (hl.el_wait rfl))
      { st_ok := hl.st_afterWrite, ph_ok := hl.ph_ok, no_result := hl.no_result }
  | drain =>
    exact coherent_goto hr.rxClear
      { st_ok := hl.st_afterWrite, ph_ok := hl.ph_ok, no_result := hl.no_result
        args_fit := (bytesFit_iff _ _).2 hr.rx_depth }
  | ready r =>
    exact coherent_goto hr.setReady
      { st_ok := hl.st_afterWrite, ph_ok := by simp [jobPolls], no_result := hl.no_result, args_fit := hl.args_fit }
  | short r =>
    have hs : ReadyFor s (.xchg k (.ret r)) := hl.next hl.st_afterWrite (hf := hl.args_fit)
    dsimp only [xchgLine]
    split
    · exact coherent_goto (hr.note _) { hs with }
    · exact coherent_goto hr hs
  | ret r =>
    have hst : s.st = writtenState k := (mem_xchgStates_afterWrite (l := .ret r) rfl).1 hl.st_ok
    exact coherent_returnPacket hr hl (hst ▸ writtenState_mem_returnStates k) rfl
      (bytesFit_packetOf _ _ hr.cfg_wf hl.args_fit)

theorem coherent_probeLine {c : ProbeCaller} {l : ProbeLine} (h : Coherent s) (hj : s.job = some (.probe c l)) :
    Coherent (probeLine c l s) := by
  have hr := registersOk_of_coherent h
  have hl := readyFor_of_coherent h hj
  have hst : ∀ l', s.st ∈ jobStates (some (.probe c l')) := by cases c <;> exact fun _ => hl.st_ok
  cases l with
  | compare r => exact coherent_goto hr (hl.next (hst _))
  | note ok =>
    have hs : ReadyFor s (.probe c (.ret ok)) := hl.next (hst _)
    cases ok with
    | true => exact coherent_goto hr hs
    | false => exact coherent_goto (hr.note _) { hs with }
  | ret ok =>
    cases c with
    | isconnected => exact coherent_finish hr ⟨by simpa [jobStates] using hl.st_ok, hl.ph_ready⟩ rfl
    | connect rest => cases ok <;> exact coherent_goto hr (hl.next hl.st_ok)

theorem coherent_getposLine {a : Axis} {l : GetposLine} (h : Coherent s) (hj : s.job = some (.getpos a l)) :
    Coherent (getposLine a l s) := by
  have hr := registersOk_of_coherent h
  have hl := readyFor_of_coherent h hj
  have hn : ∀ l', ReadyFor s (.getpos a l') := fun l' => hl.next hl.st_ok
  cases l with
  | valid r => dsimp only [getposLine]; split <;> exact coherent_goto hr (hn _)
  | chkbad => exact coherent_goto (hr.note _) { hn .ret with }
  | length r => dsimp only [getposLine]; split <;> exact coherent_goto hr (hn _)
  | badlen => exact coherent_goto (hr.note _) { hn .ret with }
  | store w => exact coherent_goto (hr.setLastpos a _) { hn .ret with }
  | ret => exact coherent_finish hr ⟨by simpa [jobStates] using hl.st_ok, hl.ph_ready⟩ rfl

theorem pingPacket_fitsPort : pingPacket.fitsPort = true := by decide

theorem clearfaultsPacket_fitsPort (cfg : Config) : (clearfaultsPacket cfg).fitsPort = true := by
  unfold clearfaultsPacket faultFill
  split <;> rfl

theorem coherent_connectLine {rest : List Nat} {l : ConnectLine} (h : Coherent s)
    (hj : s.job = some (.connect rest l)) : Coherent (connectLine rest l s) := by
  have hr := registersOk_of_coherent h
  have hl := readyFor_of_coherent h hj
  have hst := hl.st_ok
  cases l with
  | test auto port =>
    dsimp only [connectLine]
    split
    next hi => exact coherent_goto hr (hl.next (by simp [hi, jobStates, connectStates]))
    next hi => exact coherent_goto hr (hl.next (by simpa [hi, jobStates, connectStates] using hst))
  | mode auto port => cases auto <;> exact coherent_goto hr (hl.next hst)
  | scan => cases rest <;> exact coherent_goto hr (hl.next hst)
  | ask p =>
    have ha : ReadyFor (s.askOpen p) (.connect rest (.ask p)) :=
      { st_ok := by simpa using hst, ph_ok := by simpa using hl.ph_ok, no_result := by simpa using hl.no_result }
    dsimp only [connectLine]
    split
    next hp =>
      have hp : p < (s.askOpen p).cfg.nPorts := by simpa using ((openOk_iff s p).1 hp).1
      exact coherent_goto (hr.askOpen p) (ha.next ha.st_ok (ho := hp))
    next => exact coherent_goto (hr.askOpen p) (ha.next ha.st_ok)
  | openfail => exact coherent_goto (hr.note _) { hl.next (j' := .connect rest (.one false)) hst with }
  | opening p =>
    exact coherent_goto (hr.openPort hl.opens_ok)
      { st_ok := by simp [probeStart, jobStates, xchgStates], ph_ok := hl.ph_ok, no_result := hl.no_result
        args_fit := pingPacket_fitsPort }
  | close =>
    exact coherent_goto hr.closePort
      { st_ok := by simp [jobStates, connectStates], ph_ok := by simp [jobPolls], no_result := hl.no_result }
  | clear => exact coherent_goto hr (hl.next hst (hf := clearfaultsPacket_fitsPort s.cfg))
  | idle =>
    exact coherent_goto (hr.setSt nofun)
      { st_ok := by simp [jobStates, connectStates], ph_ok := hl.ph_ok, no_result := hl.no_result }
  | one ok => cases ok <;> exact coherent_goto hr (hl.next hst)
  | ret ok =>
    have ha : s.st = .closed ∨ s.st = .idle := by cases ok <;> simp_all [jobStates, connectStates]
    exact coherent_finish hr ⟨ha, hl.ph_ready⟩ rfl

theorem coherent_blockLine (h : Coherent s) : Coherent s.blockLine := by
  unfold State.blockLine
  split
  · exact h
  · exact coherent_xchgLine h ‹_›
  · exact coherent_probeLine h ‹_›
  · exact coherent_getposLine h ‹_›
  · exact coherent_connectLine h ‹_›

theorem coherent_tickEvent (h : Coherent s) : Coherent s.tickEvent := by
  obtain ht | ⟨k, hk, ht⟩ := tickEvent_cases s <;> rw [ht]
  · exact h
  · have hw := readyFor_of_coherent h hk
    exact coherent_goto (registersOk_of_coherent h) (hw.next hw.st_afterWrite (hw := fun _ => hw.el_wait rfl))

/-! ### A step keeps the invariant -/

/-- R290: reset leaves a coherent state when the parameters are within their bounds. -/
theorem coherent_resetWith {cfg : Config} (hw : cfg.wf = true) (opens : List Bool) (ins : List Input) :
    Coherent (State.resetWith cfg opens ins) := by
  have hp : 0 < cfg.nPorts := by
    simp only [Config.wf, Bool.and_eq_true, decide_eq_true_eq] at hw
    exact hw.1
  refine coherent_of_job_none ?_ ⟨.inl rfl, rfl⟩ rfl
  exact {
    cfg_wf := hw
    rx_closed := fun _ => rfl
    rx_depth := fun _ _ => Nat.zero_le _
    el_step := rfl
    el_max := Nat.zero_le _
    el_poll := nofun
    port_ok := hp
    result_fits := rfl }

/-- Settles O10: the default parameters are within their bounds. -/
theorem resetStateIsCoherent : Obligations.ResetStateIsCoherent := coherent_resetWith rfl [] []

theorem keptInRun_coherent : KeptInRun Coherent where
  inputs _ _ _ _ _ h := { h with }
  arrive _ b h := coherent_arrive h b
  tick _ h := coherent_tickEvent h
  line _ h := coherent_blockLine h
  reset _ _ _ h := coherent_resetWith h.cfg_wf _ _

theorem coherent_idleEvent (h : Coherent s) (e : Input) : Coherent (s.idleEvent e) := by
  cases e with
  | rx b => exact coherent_arrive h b
  | reset => exact coherent_resetWith h.cfg_wf _ _
  | tick | go | await | look | word w => exact h

theorem coherent_lowerDone (h : Coherent s) : Coherent s.lowerDone :=
  { h with busy_result := fun hj => ⟨(h.busy_result hj).1, rfl⟩ }

theorem trajPacket_fitsPort (cfg : Config) (a : Axis) (sub : Byte) : (trajPacket cfg a sub).fitsPort = true := by
  unfold trajPacket
  split <;> rfl

/-- R33: a codec or catalog command's value fits the result port. -/
theorem pureValue_fits {i : Instr} {cfg : Config} (hp : isPure i = true) (hw : cfg.wf = true)
    (hi : WellFormed cfg i = true) : resultFits cfg (some ⟨.ok, some (pureValue cfg i)⟩) = true := by
  have hf : ∀ p : Packet, p.fitsPort = true → bytesFit cfg (bytesOf p) = true := fun p => bytesFit_of_fitsPort cfg p hw
  cases i <;> cases hp
  case encode p =>
    have hl : p.payload.length ≤ 510 := of_decide_eq_true hi
    exact decide_eq_true (by rw [length_bytesOf]; omega)
  case decode bs => exact bytesFit_packetOf cfg bs hw hi
  case sealPkt p => exact hf (sealPacket p) hi
  case chkvalid | packvid | unpackvid | i32tow | wtoi32 => rfl
  case ping => exact hf _ pingPacket_fitsPort
  case clearfaults => exact hf _ (clearfaultsPacket_fitsPort cfg)
  case home a | startmove a => exact hf _ (trajPacket_fitsPort cfg a _)
  case settrajabs | ampon | ampoff | readpos | setpos => exact hf _ rfl

/-- R98: the packet of a wire request row, or of an exchange, fits the port. -/
theorem firstJob_fits {i : Instr} {cfg : Config} {j : Job} (hi : WellFormed cfg i = true) (hj : firstJob cfg i = some j) :
    jobFits cfg (some j) = true := by
  cases i <;> cases hj
  case exchange p tmo => exact hi
  case isconnected => exact pingPacket_fitsPort
  case wireClearfaults => cases h : cfg.clearfaultsFill <;> simp [jobFits, rowClearfaults, h, Packet.fitsPort, maxPayload]
  case wireAmpon a c | wireSetpos a c v =>
    cases h : cfg.intWireOrder <;> simp [jobFits, rowAmpon, rowSetpos, h, Packet.fitsPort, maxPayload]
  case wireHome a c | wireStartmove a c =>
    cases h : cfg.trajSubcmd <;> simp [jobFits, rowHome, rowStartmove, h, Packet.fitsPort, maxPayload]
  all_goals rfl

/-- R181: a command that can wait starts in `Closed` or `Idle`, before any write. -/
theorem firstJob_line {i : Instr} {cfg : Config} {j : Job} (hj : firstJob cfg i = some j) :
    jobStates (some j) = [.closed, .idle] ∧ jobPolls (some j) = false ∧ jobCounts (some j) = false ∧
      ∀ n, jobOpens (some j) n := by
  cases i <;> cases hj <;> exact ⟨rfl, rfl, rfl, fun _ => trivial⟩

theorem readyFor_firstJob {i : Instr} {j : Job} (ha : AtRest s) (hn : s.result = none ∧ s.done = false)
    (hi : WellFormed s.cfg i = true) (hj : firstJob s.cfg i = some j) : ReadyFor s j := by
  obtain ⟨hst, hp, hc, ho⟩ := firstJob_line hj
  exact {
    st_ok := by simpa [hst] using ha.st_ok
    ph_ok := by simp [hp, ha.ph_ok]
    el_wait := by simp [hc]
    opens_ok := ho _
    no_result := hn
    args_fit := firstJob_fits hi hj }

theorem coherent_exec {i : Instr} (h : Coherent s) (hb : s.busy = false) (hi : WellFormed s.cfg i = true)
    (he : exec i s = .next t) : Coherent t := by
  have hr := registersOk_of_coherent h
  have hj := (busy_eq_false_iff s).1 hb
  have ha := atRest_of_coherent h hj
  have ha' : AtRest s.accept := { ha with }
  obtain ⟨hp, rfl⟩ | ⟨j, hf, rfl⟩ | ⟨rfl, rfl⟩ | ⟨c, rfl, rfl⟩ | ⟨-, p, rfl⟩ := exec_cases hb he
  · rw [endedWith, ← accept_complete s hb]
    exact coherent_finish hr.accept ha' (pureValue_fits hp hr.cfg_wf hi)
  · exact keptInRun_coherent.resume (coherent_goto hr.accept (readyFor_firstJob ha' ⟨rfl, rfl⟩ hi hf))
  · split
    · exact coherent_finish hr.accept ha' rfl
    · exact coherent_finish hr.accept.closePort ⟨.inl rfl, rfl⟩ rfl
  · exact coherent_finish (hr.accept.note _) { ha' with } rfl
  · exact keptInRun_coherent.arriveAll _ h

/-- Settles O11: the invariant is kept by each thing a step can do. -/
theorem stepKeepsCoherence : Obligations.StepKeepsCoherence := by
  intro s t h hs
  have hd := coherent_lowerDone h
  have hin : ∀ ins, Coherent { s.lowerDone with inputs := ins } := fun ins => { hd with }
  obtain ⟨-, rfl⟩ | ⟨-, -, rfl⟩ | ⟨e, ins, -, -, -, rfl⟩ | ⟨w, ins, i, hb, -, hw, he⟩ := step_cases hs
  · exact keptInRun_coherent.resume hd
  · exact hd
  · exact coherent_idleEvent (hin ins) e
  · exact coherent_exec (hin ins) hb (decode_wellFormed hw) he

end Sys2Proof.Proofs

/-! Proofs for the family 20_memory.md: what a byte that arrives, a line of the block and a cycle do to the receive queue and
to the transmit stream, and the statements about the two. -/

namespace Sys2Proof.Proofs

open Sys2Proof.Machine

variable {s : State}

/-! ### A byte that arrives -/

theorem rxFull_eq_false_iff : s.rxFull = false ↔ ∀ d, s.cfg.rxDepth = some d → s.rxq.length < d := by
  cases hd : s.cfg.rxDepth with
  | none => simp [rxFull_unbounded s hd]
  | some d => simp [rxFull_bounded s d hd]

/-- R52: below the depth of the queue a byte is appended. -/
theorem arrive_below (b : Byte) (h : s.st ≠ .closed) (hd : ∀ d, s.cfg.rxDepth = some d → s.rxq.length < d) :
    s.arrive b = { s with rxq := s.rxq ++ [b] } :=
  arrive_room s b h (rxFull_eq_false_iff.2 hd)

/-- R54: at the depth of the queue a byte is discarded; `RXOVR` is bit 6 of `DIAG`. -/
theorem arrive_at_depth (b : Byte) (h : s.st ≠ .closed) (hd : s.cfg.rxDepth = some s.rxq.length) :
    s.arrive b = { s with diag := s.diag ||| 0x40#8 } :=
  arrive_full s b h (by simp [rxFull_bounded s _ hd])

/-- Settles O16: in a command and between commands the byte is taken by `arrive`. -/
theorem byteArrival : Obligations.ByteArrival := by
  intro s b ins hi
  have hc : s.cycle = { s with inputs := ins }.arrive b := cycle_rx s b ins hi
  have hs : s.busy = false → step s = .next ({ s.lowerDone with inputs := ins }.arrive b) := fun hb =>
    step_event s (.rx b) ins hb hi nofun
  refine ⟨fun _ h => ?_, fun _ h hd => ?_, fun _ h hd => ?_, fun hb h => ?_, fun hb h hd => ?_, fun hb h hd => ?_⟩
  · exact hc.trans (arrive_closed _ b h)
  · exact hc.trans (arrive_below b h hd)
  · exact hc.trans (arrive_at_depth b h hd)
  · exact (hs hb).trans (congrArg _ (arrive_closed _ b h))
  · exact (hs hb).trans (congrArg _ (arrive_below b h hd))
  · exact (hs hb).trans (congrArg _ (arrive_at_depth b h hd))

theorem arriveAll_rxq (bs : List Byte) : ∃ cs, (s.arriveAll bs).rxq = s.rxq ++ cs := by
  induction bs generalizing s with
  | nil => exact ⟨[], (List.append_nil _).symm⟩
  | cons b bs ih =>
    obtain ⟨cs, hcs⟩ := ih (s := s.arrive b)
    rw [State.arriveAll, hcs]
    obtain ha | ha | ⟨-, -, ha⟩ := arrive_cases s b <;> rw [ha]
    · exact ⟨cs, rfl⟩
    · exact ⟨cs, rfl⟩
    · exact ⟨b :: cs, List.append_assoc ..⟩

/-! ### What a line does to the two streams -/

/-- Neither the receive queue nor the transmit stream has changed. -/
def SameStreams (s t : State) : Prop := t.rxq = s.rxq ∧ t.txlog = s.txlog

/-- R57: a line has written the packet `p` to the transmit stream and left the receive queue as it was. -/
def Transmits (p : Packet) (s t : State) : Prop := t.rxq = s.rxq ∧ t.txlog = s.txlog ++ sent s.port (wireBytes p)

/-- R53, R56: a line has emptied the receive queue and left the transmit stream as it was. -/
def EmptiesRxq (s t : State) : Prop := t.rxq = [] ∧ t.txlog = s.txlog

/-- R53, R56: the lines at which the receive queue is emptied. -/
def AtEmptyingLine (s : State) : Prop :=
  (∃ k, s.job = some (.xchg k .drain)) ∨
  (∃ rest p, s.job = some (.connect rest (.opening p))) ∨ (∃ rest, s.job = some (.connect rest .close))

theorem sameStreams_returnPacket (k : XchgCaller) (p : Packet) : SameStreams s (s.returnPacket k p) := by
  cases k <;> exact ⟨rfl, rfl⟩

theorem transmits_write (k : XchgCaller) (p : Packet) (tmo : BitVec 16) :
    Transmits p s (xchgLine k (.write p tmo) s) := by
  simp [Transmits, xchgLine, State.txWrite, bytesOf, wireBytes, sent]

theorem xchgLine_streams (k : XchgCaller) (l : XchgLine) :
    SameStreams s (xchgLine k l s) ∨ (∃ p tmo, l = .write p tmo ∧ Transmits p s (xchgLine k l s)) ∨
    (l = .drain ∧ EmptiesRxq s (xchgLine k l s)) := by
  cases l
  case write p tmo => exact .inr (.inl ⟨p, tmo, rfl, transmits_write k p tmo⟩)
  case drain => exact .inr (.inr ⟨rfl, rfl, rfl⟩)
  case passReturn p => exact .inl (sameStreams_returnPacket k p)
  case ret r => exact .inl (sameStreams_returnPacket k (packetOf r))
  case test | check | short => dsimp only [xchgLine]; split <;> exact .inl ⟨rfl, rfl⟩
  all_goals exact .inl ⟨rfl, rfl⟩

theorem sameStreams_probeLine (c : ProbeCaller) (l : ProbeLine) : SameStreams s (probeLine c l s) := by
  cases l with
  | compare r => exact ⟨rfl, rfl⟩
  | note ok => cases ok <;> exact ⟨rfl, rfl⟩
  | ret ok =>
    cases c with
    | isconnected => exact ⟨rfl, rfl⟩
    | connect rest => cases ok <;> exact ⟨rfl, rfl⟩

theorem sameStreams_getposLine (a : Axis) (l : GetposLine) : SameStreams s (getposLine a l s) := by
  cases l
  case valid | length => dsimp only [getposLine]; split <;> exact ⟨rfl, rfl⟩
  all_goals exact ⟨rfl, rfl⟩

theorem connectLine_streams (rest : List Nat) (l : ConnectLine) :
    SameStreams s (connectLine rest l s) ∨
    (((∃ p, l = .opening p) ∨ l = .close) ∧ EmptiesRxq s (connectLine rest l s)) := by
  cases l
  case opening p => exact .inr ⟨.inl ⟨p, rfl⟩, rfl, rfl⟩
  case close => exact .inr ⟨.inr rfl, rfl, rfl⟩
  case ask p => left; dsimp only [connectLine]; split <;> simp [SameStreams]
  case test => dsimp only [connectLine]; split <;> exact .inl ⟨rfl, rfl⟩
  case mode auto port => cases auto <;> exact .inl ⟨rfl, rfl⟩
  case scan => cases rest <;> exact .inl ⟨rfl, rfl⟩
  case one ok => cases ok <;> exact .inl ⟨rfl, rfl⟩
  all_goals exact .inl ⟨rfl, rfl⟩

/-- What the block's next line can do to the two streams. -/
theorem blockLine_streams (s : State) :
    SameStreams s s.blockLine ∨
    (∃ k p tmo, s.job = some (.xchg k (.write p tmo)) ∧ Transmits p s s.blockLine) ∨
    (AtEmptyingLine s ∧ EmptiesRxq s s.blockLine) := by
  unfold State.blockLine
  split
  case h_1 => exact .inl ⟨rfl, rfl⟩
  case h_2 k l hj =>
    obtain h | ⟨p, tmo, rfl, h⟩ | ⟨rfl, h⟩ := xchgLine_streams (s := s) k l
    · exact .inl h
    · exact .inr (.inl ⟨k, p, tmo, hj, h⟩)
    · exact .inr (.inr ⟨.inl ⟨k, hj⟩, h⟩)
  case h_3 c l hj => exact .inl (sameStreams_probeLine c l)
  case h_4 a l hj => exact .inl (sameStreams_getposLine a l)
  case h_5 rest l hj =>
    obtain h | ⟨⟨p, rfl⟩ | rfl, h⟩ := connectLine_streams (s := s) rest l
    · exact .inl h
    · exact .inr (.inr ⟨.inr (.inl ⟨rest, p, hj⟩), h⟩)
    · exact .inr (.inr ⟨.inr (.inr ⟨rest, hj⟩), h⟩)

/-! ### What a cycle does -/

/-- What a cycle can do: a reset, the arrival of bytes (none at a look), a tick, or a line of the block. What stands ready
outside may be used up before it or after it. -/
theorem cycle_cases (s : State) : ∃ before after u, s.cycle = { u with inputs := after } ∧
    ((s.inputs.head? = some .reset ∧ u = { s with inputs := before }.doReset) ∨
     (∃ bs, u = { s with inputs := before }.arriveAll bs) ∨
     u = { s with inputs := before }.tickEvent ∨ u = { s with inputs := before }.blockLine) := by
  have ht := turn_cases s
  unfold State.cycle
  split
  case h_1 => exact ⟨s.inputs, _, s.turn, rfl, .inr (.inr ht)⟩
  case h_2 b ins hi => exact ⟨ins, _, _, rfl, .inr (.inl ⟨[b], rfl⟩)⟩
  case h_3 ins hi => exact ⟨ins, _, _, rfl, .inr (.inr (.inl rfl))⟩
  case h_4 ins hi => exact ⟨ins, _, _, rfl, .inr (.inr (.inr rfl))⟩
  case h_5 ins hi =>
    split
    · exact ⟨s.inputs, _, s.turn, rfl, .inr (.inr ht)⟩
    · exact ⟨s.inputs, ins, s.turn, rfl, .inr (.inr ht)⟩
  case h_6 ins hi => exact ⟨ins, ins, { s with inputs := ins }, rfl, .inr (.inl ⟨[], rfl⟩)⟩
  case h_7 ins hi => exact ⟨ins, _, _, rfl, .inl ⟨by simp [hi], rfl⟩⟩
  case h_8 w ins hi => exact ⟨ins, _, _, rfl, .inr (.inl ⟨receivedBytes s.cfg w, rfl⟩)⟩

/-- R181, R192: the write of an exchange is not done in `Closed`. -/
theorem not_closed_of_write {k : XchgCaller} {p : Packet} {tmo : BitVec 16} (h : Coherent s)
    (hj : s.job = some (.xchg k (.write p tmo))) : s.st ≠ .closed := by
  have hst : s.st ∈ xchgStates k (.write p tmo) := (readyFor_of_coherent h hj).st_ok
  intro hc
  rcases k with _ | _ | (_ | _) | _ <;> simp [xchgStates, hc] at hst

/-- Settles O17: of all a cycle can do only the line of a write changes `TXLOG`, and the invariant keeps that line out of
`Closed`. -/
theorem onlyAnOpenExchangeTransmits : Obligations.OnlyAnOpenExchangeTransmits := by
  intro s h hn
  obtain ⟨before, after, u, hc, hu⟩ := cycle_cases s
  rw [hc]
  obtain ⟨hr, -⟩ | ⟨bs, rfl⟩ | rfl | rfl := hu
  · exact absurd hr hn
  · exact .inl (arriveAll_txlog _ bs)
  · exact .inl (tickEvent_txlog _)
  · obtain ⟨-, ht⟩ | ⟨k, p, tmo, hj, -, ht⟩ | ⟨-, -, ht⟩ := blockLine_streams { s with inputs := before }
    · exact .inl ht
    · exact .inr ⟨k, p, tmo, hj, not_closed_of_write h hj, ht⟩
    · exact .inl ht

/-- Settles O18: of all a cycle can do only a reset and a line that empties `RXQ` take bytes out of it. -/
theorem bytesLeaveTheQueueTogether : Obligations.BytesLeaveTheQueueTogether := by
  intro s
  obtain ⟨before, after, u, hc, hu⟩ := cycle_cases s
  rw [hc]
  obtain ⟨hr, rfl⟩ | ⟨bs, rfl⟩ | rfl | rfl := hu
  · exact .inr ⟨rfl, .inl hr⟩
  · exact .inl (arriveAll_rxq bs)
  · exact .inl ⟨[], by simp⟩
  · obtain ⟨hq, -⟩ | ⟨k, p, tmo, -, hq, -⟩ | ⟨he, hq, -⟩ := blockLine_streams { s with inputs := before }
    · exact .inl ⟨[], by simpa using hq⟩
    · exact .inl ⟨[], by simpa using hq⟩
    · exact .inr ⟨hq, .inr he⟩

end Sys2Proof.Proofs

/-! Proofs for the family 30_encoding.md: what the decoder refuses and what it reads as reserved, the checksum as the
exclusive-or of a packet's wire bytes, and the statements about the two and about a word that is presented. -/

namespace Sys2Proof.Proofs

open Sys2Proof.Machine

variable {s : State} {cfg : Config} {code : Byte} {args : Args} {e : DecodeError}

/-! ### What the decoder refuses -/

theorem withPkt_error {f : Packet → Instr} (h : withPkt args f = .error e) :
    e = .payloadTooLong ∧ 510 < args.pkt.payload.length := by
  unfold withPkt at h
  split at h
  next => cases h
  next hl => exact ⟨(Except.error.inj h).symm, Nat.lt_of_not_le hl⟩

theorem withBytes_error {f : List Byte → Instr} (h : withBytes cfg args f = .error e) :
    e = .bytesTooLong ∧ ∃ d, cfg.rxDepth = some d ∧ d < args.bytes.length := by
  unfold withBytes at h
  split at h
  next => cases h
  next hl => exact ⟨(Except.error.inj h).symm, by simpa [bytesFit_iff] using hl⟩

/-- R98: of the command codes only those with a `pkt` or a `bytes` argument can be refused. -/
theorem decodeCmd_error (h : decodeCmd cfg code args = .error e) :
    (e = .payloadTooLong ∧ 510 < args.pkt.payload.length ∧ code ∈ [0x01#8, 0x03#8, 0x04#8, 0x23#8]) ∨
    (e = .bytesTooLong ∧ code = 0x02#8 ∧ ∃ d, cfg.rxDepth = some d ∧ d < args.bytes.length) := by
  have hcode : ∀ c : Byte, code.toNat = c.toNat → code = c := fun _ => BitVec.eq_of_toNat_eq
  unfold decodeCmd at h
  split at h
  case h_2 hc =>
    obtain ⟨he, hd⟩ := withBytes_error h
    exact .inr ⟨he, hcode 0x02#8 hc, hd⟩
  case h_1 hc | h_3 hc | h_4 hc | h_21 hc =>
    obtain ⟨he, hl⟩ := withPkt_error h
    exact .inl ⟨he, hl, by simp [← BitVec.toNat_inj, hc]⟩
  all_goals cases h

/-- R80: only a packet shorter than its header is refused. -/
theorem decodeWire_error {bytes : List Byte} (h : decodeWire cfg bytes = .error e) :
    e = .shorterThanHeader ∧ bytes.length < 4 := by
  match bytes, h with
  | [], h | [_], h | [_, _], h | [_, _, _], h => exact ⟨(Except.error.inj h).symm, by simp⟩
  | _ :: _ :: _ :: _ :: _, h => cases h

/-- Settles O7: `decodeCmd_error` for the command port, `decodeWire_error` for the wire. -/
theorem onlyUnpresentableWordsAreRefused : Obligations.OnlyUnpresentableWordsAreRefused :=
  fun _ => ⟨fun _ _ _ => decodeCmd_error, fun _ _ => decodeWire_error⟩

/-! ### The checksum as the exclusive-or of the wire bytes -/

theorem bytesOf_packetOf {bs : List Byte} (h : 4 ≤ bs.length) : bytesOf (packetOf bs) = bs := by
  match bs, h with
  | _ :: _ :: _ :: _ :: _, _ => rfl

/-- R82: the checksum test looks at the exclusive-or of the wire bytes alone. -/
theorem checksumValid_eq (p : Packet) : checksumValid p = (xorAll (bytesOf p) == chkConst) := by
  simp [checksumValid, bytesOf, xorAll, BitVec.xor_assoc]

theorem checksumValid_packetOf {bs : List Byte} (h : 4 ≤ bs.length) :
    checksumValid (packetOf bs) = (xorAll bs == chkConst) := by
  rw [checksumValid_eq, bytesOf_packetOf h]

/-- Changing the same bits of one byte changes those bits of the exclusive-or. -/
theorem xorAll_modify {bs : List Byte} {i : Nat} (m : Byte) (h : i < bs.length) :
    xorAll (bs.modify i (· ^^^ m)) = xorAll bs ^^^ m := by
  induction bs generalizing i with
  | nil => exact absurd h (Nat.not_lt_zero i)
  | cons b bs ih =>
    cases i with
    | zero => simp only [List.modify_zero_cons, xorAll]; ac_rfl
    | succ i => simp only [List.modify_succ_cons, xorAll, ih (Nat.lt_of_succ_lt_succ h), BitVec.xor_assoc]

theorem xorAll_perm {bs cs : List Byte} (h : bs.Perm cs) : xorAll bs = xorAll cs := by
  induction h with
  | nil => rfl
  | cons b _ ih => simp only [xorAll, ih]
  | swap b c bs => simp only [xorAll]; ac_rfl
  | trans _ _ ih₁ ih₂ => exact ih₁.trans ih₂

/-- Settles O33: the two flips cancel in the exclusive-or, which does not depend on the order of the bytes. -/
theorem checksumBlindSpots : Obligations.ChecksumBlindSpots := by
  refine ⟨fun p i j k hi hj _ _ => ?_, fun p q h => ?_⟩
  · rw [checksumValid_packetOf (by simp), checksumValid_eq, xorAll_modify _ (by simpa using hj), xorAll_modify _ hi,
      BitVec.xor_assoc, BitVec.xor_self, BitVec.xor_zero]
  · rw [checksumValid_eq, checksumValid_eq, xorAll_perm h]

/-! ### Words that decode -/

/-- Settles O1, by decoding the seven words. -/
theorem tableWordsDecodeToTheirRows : Obligations.TableWordsDecodeToTheirRows :=
  ⟨rfl, rfl, rfl, rfl, rfl, rfl, rfl⟩

/-- Settles O6, by what a step does with a word that decodes and with one that does not. -/
theorem stepRunsTheDecodedInstruction : Obligations.StepRunsTheDecodedInstruction :=
  fun _ _ _ hb hi => ⟨fun _ hd => step_word hb hi hd, fun _ hd => step_refused hb hi hd⟩

/-! ### A command presented while another is in flight -/

/-- R99: a command's arm of `exec` begins with the handshake, which ignores a start while `busy` is true. -/
theorem exec_busy {i : Instr} (h : s.busy = true) (hi : isArrival i = false) : exec i s = .next s := by
  cases i
  case wirePingResponse | wireGeneric => cases hi
  all_goals exact if_pos h

/-- Settles O15: `exec_busy` for `exec`, and for the inputs that a command word puts no byte on the receive stream. -/
theorem startWhileBusyIsIgnored : Obligations.StartWhileBusyIsIgnored :=
  ⟨fun _ _ => exec_busy, fun s code args ins _ hi => cycle_cmd s code args ins hi⟩

/-! ### The reserved codes -/

/-- R100: the three blocks of command codes. -/
theorem mem_commandCodes_iff : code ∈ commandCodes ↔
    (0x01 ≤ code.toNat ∧ code.toNat ≤ 0x08) ∨ (0x10 ≤ code.toNat ∧ code.toNat ≤ 0x18) ∨
      (0x20 ≤ code.toNat ∧ code.toNat ≤ 0x24) := by
  simp only [commandCodes, List.cons_append, List.nil_append, List.mem_cons, List.not_mem_nil, or_false, ← BitVec.toNat_inj,
    BitVec.toNat_ofNat]
  omega

/-- R101: every code that is none of R100's is a reserved command. -/
theorem decodeCmd_reserved (h : code ∉ commandCodes) : decodeCmd cfg code args = .ok (.reserved code) := by
  rw [mem_commandCodes_iff] at h
  unfold decodeCmd
  split
  case h_23 => rfl
  all_goals omega

/-- R101: a reserved command sets `ILLCMD` and changes the result port, and nothing else. -/
theorem accept_note_reject (h : s.busy = false) (b : DiagBit) :
    (s.accept.note b).reject = { s with diag := s.diag ||| b.mask, result := some ⟨.illegal, none⟩, done := true } := by
  rw [busy_eq_false_iff] at h
  simp [State.accept, State.note, State.reject, State.finish, h]

/-- Settles O36: the ranges are the codes outside `commandCodes`, and `ILLCMD` is bit 7 of `DIAG`. -/
theorem reservedCodeIsIllegal : Obligations.ReservedCodeIsIllegal := by
  intro s code args hb hc
  have hnot : code ∉ commandCodes := by
    rw [mem_commandCodes_iff]
    obtain rfl | hc := hc
    · decide
    · omega
  exact ⟨decodeCmd_reserved hnot, (exec_reserved code hb).trans (congrArg _ (accept_note_reject hb .illcmd))⟩

end Sys2Proof.Proofs

/-! Proofs for the family 40_codec.md: what the decoder reads from the codec's command codes, the checksum, the identifier
word and the four bytes of an integer as numbers, and the statements about the eight codec commands. What a codec command
ends with is `exec_pure` throughout. -/

namespace Sys2Proof.Proofs

open Sys2Proof.Machine

variable {args : Args} {p : Packet}

/-! ### The arguments the command port carries -/

theorem withPkt_of_fits {f : Packet → Instr} (h : args.pkt.payload.length ≤ 510) : withPkt args f = .ok (f args.pkt) :=
  if_pos h

theorem withBytes_of_fits {cfg : Config} {f : List Byte → Instr} (h : bytesFit cfg args.bytes = true) :
    withBytes cfg args f = .ok (f args.bytes) :=
  if_pos h

/-! ### The serialiser -/

/-- Settles O23: the codec's bytes are the header and the payload by definition. -/
theorem encodeReturnsTheWireBytes : Obligations.EncodeReturnsTheWireBytes :=
  fun _ _ hb hl => ⟨withPkt_of_fits hl, exec_pure rfl hb⟩

/-- Settles O24: `packetOf` by the length of the sequence. -/
theorem decodeReturnsThePacket : Obligations.DecodeReturnsThePacket := by
  intro s args hb
  have hexec : exec (.decode args.bytes) s = .next (endedWith s (.pkt (packetOf args.bytes))) := exec_pure rfl hb
  refine ⟨fun hd => withBytes_of_fits ((bytesFit_iff _ _).2 hd), fun hl => ?_, fun _ _ _ _ _ hbs => ?_⟩
  · rwa [packetOf_short _ hl] at hexec
  · rw [hexec, hbs, packetOf_four]

/-- Settles O31: a packet's bytes begin with its own header, and a sequence shorter than a header gives the zero packet. -/
theorem serialiserRoundTrip : Obligations.SerialiserRoundTrip :=
  ⟨fun _ => rfl, fun _ => bytesOf_packetOf, fun bs h => by rw [packetOf_short bs h]; rfl⟩

/-! ### The checksum -/

theorem foldl_xor_eq (bs : List Byte) (a : Byte) : bs.foldl (· ^^^ ·) a = a ^^^ xorAll bs := by
  induction bs generalizing a with
  | nil => simp [xorAll]
  | cons b bs ih => rw [List.foldl_cons, ih, xorAll, BitVec.xor_assoc]

theorem sealPacket_eq_sealedPacket (p : Packet) :
    sealPacket p = sealedPacket p.node p.dataSize p.opcode p.payload := by
  have hc : (sealPacket p).checksum = (sealedPacket p.node p.dataSize p.opcode p.payload).checksum := by
    simp only [sealPacket, sealedPacket, foldl_xor_eq, xorAll, chkConst]
    ac_rfl
  exact congrArg (fun c => { p with checksum := c }) hc

/-- R82: a packet is checksum-valid exactly when it holds the checksum `SEAL` sets, for in an exclusive-or the checksum and
`CHK_CONST` can change sides. -/
theorem checksumValid_iff_sealPacket (p : Packet) : checksumValid p = true ↔ sealPacket p = p := by
  have hseal : sealPacket p = p ↔ (sealPacket p).checksum = p.checksum :=
    ⟨congrArg Packet.checksum, congrArg fun c => { p with checksum := c }⟩
  have hxor : xorAll (bytesOf p) ^^^ chkConst = (sealPacket p).checksum ^^^ p.checksum := by
    simp only [bytesOf, sealPacket, List.cons_append, List.nil_append, xorAll]
    ac_rfl
  rw [checksumValid_eq, beq_iff_eq, hseal, ← BitVec.xor_eq_zero_iff, hxor, BitVec.xor_eq_zero_iff]

/-- A single flipped bit of the wire bytes flips one bit of their exclusive-or. -/
theorem checksumValid_bit_flip {i k : Nat} (hv : checksumValid p = true) (hi : i < (bytesOf p).length) (hk : k < 8) :
    checksumValid (packetOf ((bytesOf p).modify i (· ^^^ (1#8 <<< k)))) = false := by
  rw [checksumValid_eq, beq_iff_eq] at hv
  rw [checksumValid_packetOf (by simp), xorAll_modify _ hi, hv, beq_eq_false_iff_ne]
  intro h
  have hbit : (chkConst ^^^ 1#8 <<< k).getLsbD k = chkConst.getLsbD k := congrArg (·.getLsbD k) h
  simp [hk] at hbit

/-- Settles O25: the exclusive-or of the wire bytes, folded from the left. -/
theorem chkvalidTestsTheExclusiveOr : Obligations.ChkvalidTestsTheExclusiveOr := by
  intro s args hb hl
  have hv : checksumValid args.pkt = decide ((wireBytes args.pkt).foldl (· ^^^ ·) 0x00#8 = 0x5A#8) := by
    rw [checksumValid_eq, foldl_xor_eq, BitVec.zero_xor]
    rfl
  exact ⟨withPkt_of_fits hl, hv ▸ exec_pure rfl hb⟩

/-- Settles O26, by `sealPacket_eq_sealedPacket`. -/
theorem sealSetsTheChecksumAlone : Obligations.SealSetsTheChecksumAlone :=
  fun _ args hb hl => ⟨withPkt_of_fits hl, sealPacket_eq_sealedPacket args.pkt ▸ exec_pure rfl hb⟩

/-- Settles O32: sealing does not look at the given checksum, so it is idempotent, and the other laws follow from
`checksumValid_iff_sealPacket` and `checksumValid_bit_flip`. -/
theorem checksumLaws : Obligations.ChecksumLaws :=
  have hidem (p : Packet) : sealPacket (sealPacket p) = sealPacket p := rfl
  ⟨fun p => (checksumValid_iff_sealPacket _).2 (hidem p), hidem, checksumValid_iff_sealPacket,
    fun _ _ _ => checksumValid_bit_flip⟩

/-! ### Bytes and fields, as numbers -/

theorem toNat_append_byte {n : Nat} (x : BitVec n) (b : Byte) : (x ++ b).toNat = 256 * x.toNat + b.toNat := by
  rw [BitVec.toNat_append, ← Nat.shiftLeft_add_eq_or_of_lt b.isLt, Nat.shiftLeft_eq, Nat.mul_comm]

theorem toNat_field {n : Nat} (x : BitVec n) (start len : Nat) :
    (x.extractLsb' start len).toNat = x.toNat / 2 ^ start % 2 ^ len := by
  rw [BitVec.extractLsb'_toNat, Nat.shiftRight_eq_div_pow]

/-! ### The identifier word -/

/-- R88: the variable number and the axis share no bit, so the word is their sum. -/
theorem toNat_vidWord (a : Axis) (n : VarNum) : (vidWord a n).toNat = n.toNat + 8192 * a.toNat := by
  have hor : 8192 * a.toNat + n.toNat = 8192 * a.toNat ||| n.toNat := Nat.two_pow_add_eq_or_of_lt (i := 13) (by omega) _
  have hn : n.toNat % 2 ^ 16 = n.toNat := by omega
  have ha : a.toNat % 2 ^ 16 * 2 ^ 13 % 2 ^ 16 = 8192 * a.toNat := by omega
  simp only [vidWord, BitVec.toNat_or, BitVec.toNat_shiftLeft, BitVec.toNat_setWidth, Nat.shiftLeft_eq, hn, ha]
  rw [Nat.or_comm, ← hor, Nat.add_comm]

theorem toNat_vidOf (w : Bytes2) : (vidOf w).toNat = 256 * w.b0.toNat + w.b1.toNat :=
  toNat_append_byte w.b0 w.b1

theorem vidOf_packVid (a : Axis) (n : VarNum) : vidOf (packVid a n) = vidWord a n :=
  BitVec.extractLsb'_append_extractLsb'

theorem toNat_vidAxis (w : Half) : (vidAxis w).toNat = w.toNat / 8192 := by
  rw [vidAxis, toNat_field]
  omega

theorem toNat_vidBank (w : Half) : (vidBank w).toNat = w.toNat / 4096 % 2 :=
  toNat_field w 12 1

theorem toNat_vidVarnum (w : Half) : (vidVarnum w).toNat = w.toNat % 512 :=
  BitVec.extractLsb'_toNat 0 9 w

/-- Settles O27: the two bytes are those of the word, whose number is `toNat_vidWord`. -/
theorem packvidReturnsTheIdentifierWord : Obligations.PackvidReturnsTheIdentifierWord :=
  fun _ args hb => ⟨rfl, packVid args.axis args.varnum, exec_pure rfl hb,
    by rw [← toNat_vidOf, vidOf_packVid, toNat_vidWord]⟩

/-- Settles O28: each field of the word as a number. -/
theorem unpackvidReturnsTheFields : Obligations.UnpackvidReturnsTheFields :=
  fun _ _ hb => ⟨rfl, _, _, _, exec_pure rfl hb,
    by simp only [← toNat_vidOf, toNat_vidAxis, toNat_vidBank, toNat_vidVarnum, and_self]⟩

theorem vid_fields_packVid (a : Axis) (n : VarNum) : vidAxis (vidOf (packVid a n)) = a ∧
    vidBank (vidOf (packVid a n)) = 0#1 ∧ vidVarnum (vidOf (packVid a n)) = n := by
  simp only [vidOf_packVid, ← BitVec.toNat_inj, toNat_vidAxis, toNat_vidBank, toNat_vidVarnum, toNat_vidWord,
    BitVec.toNat_ofNat]
  omega

/-- Settles O34: the fields of the packed word are its arguments, so equal words have equal arguments. -/
theorem identifierWordRoundTrip : Obligations.IdentifierWordRoundTrip := by
  refine ⟨vid_fields_packVid, fun a a' n n' h => ?_⟩
  obtain ⟨ha, -, hn⟩ := vid_fields_packVid a n
  obtain ⟨ha', -, hn'⟩ := vid_fields_packVid a' n'
  rw [h] at ha hn
  exact ⟨ha.symm.trans ha', hn.symm.trans hn'⟩

/-! ### The four bytes of an integer -/

theorem toNat_int32Of (o : WireOrder) (w : Bytes4) : (int32Of o w).toNat = patternOf o w.b0 w.b1 w.b2 w.b3 := by
  cases o <;> simp only [int32Of, patternOf, toNat_append_byte] <;> omega

theorem int32Of_val32 (o : WireOrder) (v : Word32) : int32Of o (val32 o v) = v := by
  have hmsb : v.extractLsb' 24 8 ++ v.extractLsb' 16 8 ++ v.extractLsb' 8 8 ++ v.extractLsb' 0 8 = v := by
    refine BitVec.eq_of_toNat_eq ?_
    simp only [toNat_append_byte, toNat_field]
    omega
  cases o <;> exact hmsb

theorem val32_int32Of (o : WireOrder) (w : Bytes4) : val32 o (int32Of o w) = w := by
  obtain ⟨b0, b1, b2, b3⟩ := w
  cases o <;>
    simp only [int32Of, val32, Bytes4.mk.injEq, ← BitVec.toNat_inj, toNat_field, toNat_append_byte] <;> omega

/-- Settles O29: the number of the bytes is that of the integer they read back as. -/
theorem i32towReturnsTheBytesInWireOrder : Obligations.I32towReturnsTheBytesInWireOrder :=
  fun s args hb => ⟨rfl, val32 s.cfg.intWireOrder args.pos, exec_pure rfl hb, by rw [← toNat_int32Of, int32Of_val32]⟩

/-- Settles O30: `toInt` takes `2 ^ 32` off a pattern of `2 ^ 31` or more. -/
theorem wtoi32ReadsTheBytesInWireOrder : Obligations.Wtoi32ReadsTheBytesInWireOrder := by
  intro s args hb
  refine ⟨rfl, int32Of s.cfg.intWireOrder args.b4, exec_pure rfl hb, ?_⟩
  rw [← toNat_int32Of, BitVec.toInt_eq_toNat_cond]
  split <;> split <;> omega

/-- Settles O35, by `int32Of_val32` and `val32_int32Of`; the reversal is by the definition of the two orders. -/
theorem integerRoundTrip : Obligations.IntegerRoundTrip :=
  ⟨int32Of_val32, val32_int32Of, fun _ => rfl⟩

end Sys2Proof.Proofs

/-! Proofs for the family 41_catalog.md: every catalog packet is a sealed one (R159), its identifier word is the axis and the
variable's byte (R88), and the statements about the nine catalog commands. What a catalog command ends with is `exec_pure`,
as in the codec family. -/

namespace Sys2Proof.Proofs

open Sys2Proof.Machine

/-! ### The common builder and the identifier word -/

/-- R159: the builder seals its packet, and its `dataSize` counts the payload's words. -/
theorem mkPacket_eq_sealedPacket {payload : List Byte} (node opcode : Byte) (words : Nat)
    (hl : payload.length = 2 * words) :
    mkPacket node opcode payload = sealedPacket node (BitVec.ofNat 8 words) opcode payload := by
  have hw : payload.length / 2 = words := by omega
  rw [← hw]
  exact sealPacket_eq_sealedPacket _

theorem toNat_nodeOf (a : Axis) : (nodeOf a).toNat = a.toNat :=
  BitVec.toNat_setWidth_of_le (by decide)

theorem nodeOf_eq_ofNat (a : Axis) : nodeOf a = BitVec.ofNat 8 a.toNat :=
  (BitVec.ofNat_toNat 8 a).symm

/-- R88: the number of a variable below 256 is the low byte, and the axis stands in the top three bits of the high one. -/
theorem packVid_byte (a : Axis) (var : Byte) :
    packVid a (var.setWidth 9) = ⟨BitVec.ofNat 8 (32 * a.toNat), var⟩ := by
  have hvar : (var.setWidth 9).toNat = var.toNat := BitVec.toNat_setWidth_of_le (by decide)
  simp only [packVid, Bytes2.mk.injEq, ← BitVec.toNat_inj, toNat_field, toNat_vidWord, hvar, BitVec.toNat_ofNat]
  omega

/-- R159 with R88: a packet whose payload begins with the identifier word of a variable below 256 on its own axis. -/
theorem mkPacket_packVid_eq_axisRequest {value : List Byte} (a : Axis) (opcode var : Byte) (words : Nat)
    (hl : value.length + 2 = 2 * words) :
    mkPacket (nodeOf a) opcode ((packVid a (var.setWidth 9)).toList ++ value) =
      axisRequest a (BitVec.ofNat 8 words) opcode var value := by
  rw [nodeOf_eq_ofNat, packVid_byte]
  exact mkPacket_eq_sealedPacket _ _ words hl

/-! ### What each catalog packet is -/

section Packets

variable (cfg : Config) (a : Axis)

theorem clearfaultsPacket_eq_clearRequest : clearfaultsPacket cfg = clearRequest cfg := by
  unfold clearfaultsPacket clearRequest
  cases cfg.clearfaultsFill <;> rfl

/-- R90, R93: the request to set a variable below 256 to a 16-bit value. -/
theorem setVarPacket_val16 (var : Byte) (h : Half) :
    setVarPacket a (var.setWidth 9) (val16 cfg.intWireOrder h).toList =
      axisRequest a 0x02#8 0x0D#8 var (val16 cfg.intWireOrder h).toList :=
  mkPacket_packVid_eq_axisRequest a opSetvar var 2 rfl

theorem val16_zero (o : WireOrder) : (val16 o 0x0000#16).toList = [0x00#8, 0x00#8] := by
  cases o <;> rfl

theorem settrajabsPacket_eq : settrajabsPacket cfg a = axisRequest a 0x02#8 0x0D#8 0xC8#8 [0x00#8, 0x00#8] :=
  val16_zero cfg.intWireOrder ▸ setVarPacket_val16 cfg a 0xC8#8 0x0000#16

theorem amponPacket_eq :
    amponPacket cfg a = axisRequest a 0x02#8 0x0D#8 0x24#8 (val16 cfg.intWireOrder 0x0015#16).toList :=
  setVarPacket_val16 cfg a 0x24#8 0x0015#16

theorem ampoffPacket_eq : ampoffPacket cfg a = axisRequest a 0x02#8 0x0D#8 0x24#8 [0x00#8, 0x00#8] :=
  val16_zero cfg.intWireOrder ▸ setVarPacket_val16 cfg a 0x24#8 0x0000#16

theorem setposPacket_eq (v : Word32) :
    setposPacket cfg a v = axisRequest a 0x03#8 0x0D#8 0xCA#8 (val32 cfg.intWireOrder v).toList :=
  mkPacket_packVid_eq_axisRequest a opSetvar 0xCA#8 3 rfl

theorem readposPacket_eq_readposRequest : readposPacket a = readposRequest a :=
  mkPacket_packVid_eq_axisRequest (value := []) a opGetvar 0x17#8 1 rfl

/-- R155, R156 with `TRAJ_SUBCMD = NONE`: the sub-command does not travel. -/
theorem trajPacket_none (sub : Byte) (h : cfg.trajSubcmd = .none) :
    trajPacket cfg a sub = sealedPacket (BitVec.ofNat 8 a.toNat) 0x00#8 0x11#8 [] := by
  rw [trajPacket, h, ← nodeOf_eq_ofNat]
  exact mkPacket_eq_sealedPacket _ _ 0 rfl

/-- R155, R156 with `TRAJ_SUBCMD = PAYLOAD_WORD`. -/
theorem trajPacket_payloadWord (sub : Byte) (h : cfg.trajSubcmd = .payloadWord) :
    trajPacket cfg a sub = sealedPacket (BitVec.ofNat 8 a.toNat) 0x01#8 0x11#8 [0x00#8, sub] := by
  rw [trajPacket, h, ← nodeOf_eq_ofNat]
  exact mkPacket_eq_sealedPacket _ _ 1 rfl

end Packets

/-! ### The nine commands -/

/-- A catalog command ends with its packet, however that is written. -/
theorem exec_pure_pkt {s : State} {i : Instr} {p q : Packet} (hp : isPure i = true) (hb : s.busy = false)
    (hv : pureValue s.cfg i = .pkt p) (hpq : p = q) : exec i s = .next (endedWith s (.pkt q)) :=
  hpq ▸ hv ▸ exec_pure hp hb

/-- Settles O37, by the two packets written out; the fill bytes of CLEARFAULTS are those of `clearRequest`. -/
theorem globalRequests : Obligations.GlobalRequests := by
  intro s args hb
  have hclear : exec .clearfaults s = .next (endedWith s (.pkt (clearRequest s.cfg))) :=
    exec_pure_pkt rfl hb rfl (clearfaultsPacket_eq_clearRequest _)
  refine ⟨rfl, exec_pure_pkt rfl hb rfl pingPacket_eq, rfl, fun hf => ?_, fun hf => ?_⟩ <;>
    rw [hclear, clearRequest, hf]

/-- Settles O38, by the equation of each packet; the two orders of AMPON's value and of SETPOS's are `val16` and `val32`. -/
theorem setVariableRequests : Obligations.SetVariableRequests := by
  intro s args hb
  have hampon : exec (.ampon args.axis) s = .next (endedWith s (.pkt (axisRequest args.axis 0x02#8 0x0D#8 0x24#8
      (val16 s.cfg.intWireOrder 0x0015#16).toList))) := exec_pure_pkt rfl hb rfl (amponPacket_eq _ _)
  refine ⟨rfl, exec_pure_pkt rfl hb rfl (settrajabsPacket_eq _ _), rfl, fun ho => ?_, fun ho => ?_, rfl,
    exec_pure_pkt rfl hb rfl (ampoffPacket_eq _ _), rfl, _, _, _, _, ?_,
    exec_pure_pkt rfl hb rfl (setposPacket_eq _ _ _)⟩
  · rw [hampon, ho]
    rfl
  · rw [hampon, ho]
    rfl
  · rw [← toNat_int32Of, int32Of_val32]

/-- Settles O39, by the two forms of a trajectory request. -/
theorem trajectoryRequests : Obligations.TrajectoryRequests :=
  fun _ _ hb => ⟨rfl, rfl,
    fun h => ⟨exec_pure_pkt rfl hb rfl (trajPacket_none _ _ _ h), exec_pure_pkt rfl hb rfl (trajPacket_none _ _ _ h)⟩,
    fun h => ⟨exec_pure_pkt rfl hb rfl (trajPacket_payloadWord _ _ _ h),
      exec_pure_pkt rfl hb rfl (trajPacket_payloadWord _ _ _ h)⟩⟩

/-- Settles O40. (The obligation's own name in lowerCamelCase is the model's `readposRequest`.) -/
theorem readposReturnsItsRequest : Obligations.ReadposRequest :=
  fun _ _ hb => ⟨rfl, exec_pure_pkt rfl hb rfl (readposPacket_eq_readposRequest _)⟩

/-! ### The laws of the catalog -/

/-- R160: what holds of every catalog packet. -/
def CatalogLaw (p : Packet) : Prop :=
  checksumValid p = true ∧ p.payload.length = 2 * p.dataSize.toNat ∧ p.payload.length ∈ [0, 2, 4, 6] ∧
    p.opcode ∈ [0x07#8, 0x0C#8, 0x0D#8, 0x11#8] ∧ p ≠ ⟨0#8, 0#8, 0#8, 0#8, []⟩

/-- R160: where the payload begins with an identifier word, the word's axis is the node byte. -/
def VidAxisIsNode (p : Packet) : Prop :=
  ∃ b0 b1 rest, p.payload = b0 :: b1 :: rest ∧ (vidAxis (vidOf ⟨b0, b1⟩)).toNat = p.node.toNat

/-- The common builder seals its packet and counts its payload's words, and none of the four opcodes is the zero packet's. -/
theorem catalogLaw_mkPacket {node opcode : Byte} {payload : List Byte} (words : Nat)
    (ho : opcode ∈ [0x07#8, 0x0C#8, 0x0D#8, 0x11#8]) (hl : payload.length = 2 * words) (hw : words < 4) :
    CatalogLaw (mkPacket node opcode payload) := by
  have hcount : payload.length = 2 * (payload.length / 2 % 2 ^ 8) := by omega
  have hmem : payload.length ∈ [0, 2, 4, 6] := by
    simp only [List.mem_cons, List.not_mem_nil, or_false]
    omega
  refine ⟨checksumLaws.1 _, hcount, hmem, ho, fun hz => ?_⟩
  have hzero : opcode = 0#8 := congrArg Packet.opcode hz
  exact absurd (hzero ▸ ho) (by decide)

theorem vidAxisIsNode_mkPacket (a : Axis) (n : VarNum) (opcode : Byte) (value : List Byte) :
    VidAxisIsNode (mkPacket (nodeOf a) opcode ((packVid a n).toList ++ value)) := by
  obtain ⟨haxis, -, -⟩ := vid_fields_packVid a n
  exact ⟨_, _, value, rfl, (congrArg BitVec.toNat haxis).trans (toNat_nodeOf a).symm⟩

theorem catalogLaw_clearfaultsPacket (cfg : Config) : CatalogLaw (clearfaultsPacket cfg) := by
  unfold clearfaultsPacket
  cases cfg.clearfaultsFill <;> exact catalogLaw_mkPacket 3 (by decide) rfl (by decide)

theorem catalogLaw_trajPacket (cfg : Config) (a : Axis) (sub : Byte) : CatalogLaw (trajPacket cfg a sub) := by
  unfold trajPacket
  cases cfg.trajSubcmd
  · exact catalogLaw_mkPacket 0 (by decide) rfl (by decide)
  · exact catalogLaw_mkPacket 1 (by decide) rfl (by decide)

theorem toNat_node_trajPacket (cfg : Config) (a : Axis) (sub : Byte) : (trajPacket cfg a sub).node.toNat = a.toNat := by
  unfold trajPacket
  cases cfg.trajSubcmd <;> exact toNat_nodeOf a

/-- Settles O41: all nine come from the common builder, and six of them with the identifier word of their own axis. -/
theorem catalogLaws : Obligations.CatalogLaws := by
  refine ⟨fun cfg a v => ?_, fun cfg a v => ?_, fun cfg a v => ?_⟩
  · change ∀ p ∈ _, CatalogLaw p
    have hval16 {n : VarNum} {h : Half} : CatalogLaw (setVarPacket a n (val16 cfg.intWireOrder h).toList) :=
      catalogLaw_mkPacket 2 (by decide) rfl (by decide)
    simp only [List.forall_mem_cons]
    exact ⟨catalogLaw_mkPacket 0 (by decide) rfl (by decide), catalogLaw_clearfaultsPacket cfg, hval16, hval16, hval16,
      catalogLaw_trajPacket cfg a _, catalogLaw_trajPacket cfg a _, catalogLaw_mkPacket 1 (by decide) rfl (by decide),
      catalogLaw_mkPacket 3 (by decide) rfl (by decide), nofun⟩
  · simp only [List.forall_mem_cons]
    have hnode : (nodeOf a).toNat = a.toNat := toNat_nodeOf a
    exact ⟨hnode, hnode, hnode, toNat_node_trajPacket cfg a _, toNat_node_trajPacket cfg a _, hnode, hnode, nofun⟩
  · change ∀ p ∈ _, VidAxisIsNode p
    simp only [List.forall_mem_cons]
    exact ⟨vidAxisIsNode_mkPacket 0#3 _ _ _, vidAxisIsNode_mkPacket a _ _ _, vidAxisIsNode_mkPacket a _ _ _,
      vidAxisIsNode_mkPacket a _ _ _, vidAxisIsNode_mkPacket a _ _ [], vidAxisIsNode_mkPacket a _ _ _, nofun⟩

end Sys2Proof.Proofs

/-! Proofs for the family 42_transport.md. First how long a command runs: what stands ready outside beside a line of the
block, the cost of what a command in flight has still to do (R191), and the statements that every command ends and that its
waiting is bounded. -/

namespace Sys2Proof.Proofs

open Sys2Proof.Machine

variable {o : Owner} {s t u v : State}

/-! ### What stands ready outside, beside a line of the block -/

/-- The state with other inputs ready outside. -/
def on (s : State) (ins : List Input) : State := { s with inputs := ins }

@[simp] theorem on_st (ins : List Input) : (on s ins).st = s.st := rfl
@[simp] theorem on_timedOut (ins : List Input) : (on s ins).timedOut = s.timedOut := rfl
@[simp] theorem on_openOk (p : Nat) (ins : List Input) : (on s ins).openOk p = s.openOk p := rfl
@[simp] theorem on_job (ins : List Input) : (on s ins).job = s.job := rfl
@[simp] theorem on_busy (ins : List Input) : (on s ins).busy = s.busy := rfl

theorem on_eq_self {ins : List Input} (h : s.inputs = ins) : on s ins = s := h ▸ rfl

theorem on_leaveOpening (ins : List Input) : (on s ins).leaveOpening = on s.leaveOpening ins := by
  by_cases h : s.st = .opening
  · rw [leaveOpening_opening s h, leaveOpening_opening (on s ins) h]
    rfl
  · rw [leaveOpening_other s h, leaveOpening_other (on s ins) h]

theorem on_askOpen (p : Nat) (ins : List Input) : (on s ins).askOpen p = on (s.askOpen p) ins := by
  by_cases h : p < s.cfg.nPorts
  · rw [askOpen_below s p h, askOpen_below (on s ins) p h]
    rfl
  · have h : s.cfg.nPorts ≤ p := Nat.le_of_not_lt h
    rw [askOpen_beyond s p h, askOpen_beyond (on s ins) p h]

theorem on_returnPacket (k : XchgCaller) (p : Packet) (ins : List Input) :
    (on s ins).returnPacket k p = on (s.returnPacket k p) ins := by
  cases k <;> rfl

theorem on_xchgLine (k : XchgCaller) (l : XchgLine) (ins : List Input) :
    xchgLine k l (on s ins) = on (xchgLine k l s) ins := by
  cases l
  case test | check | short => simp only [xchgLine, on_st, on_timedOut, apply_ite (on · ins)]; rfl
  case passReturn p => exact on_returnPacket k p ins
  case ret r => exact on_returnPacket k (packetOf r) ins
  case write p tmo =>
    have h := on_leaveOpening (s := s.txWrite (bytesOf p)) ins
    exact congrArg (fun u : State => u.goto (.xchg k (.latch tmo))) h
  all_goals rfl

theorem on_probeLine (c : ProbeCaller) (l : ProbeLine) (ins : List Input) :
    probeLine c l (on s ins) = on (probeLine c l s) ins := by
  cases l with
  | compare r => rfl
  | note ok => cases ok <;> rfl
  | ret ok =>
    cases c with
    | isconnected => rfl
    | connect rest => cases ok <;> rfl

theorem on_getposLine (a : Axis) (l : GetposLine) (ins : List Input) :
    getposLine a l (on s ins) = on (getposLine a l s) ins := by
  cases l
  case valid => simp only [getposLine, apply_ite (on · ins)]; rfl
  case length => dsimp only [getposLine]; split <;> rfl
  all_goals rfl

theorem on_connectLine (rest : List Nat) (l : ConnectLine) (ins : List Input) :
    connectLine rest l (on s ins) = on (connectLine rest l s) ins := by
  cases l
  case test => simp only [connectLine, on_st, apply_ite (on · ins)]; rfl
  case ask p => simp only [connectLine, on_askOpen, on_openOk, apply_ite (on · ins)]; rfl
  case mode auto port => cases auto <;> rfl
  case scan => cases rest <;> rfl
  case one ok => cases ok <;> rfl
  all_goals rfl

/-- A line reads nothing of what stands ready outside and leaves it as it is. -/
theorem on_blockLine (ins : List Input) : (on s ins).blockLine = on s.blockLine ins := by
  cases h : s.job with
  | none => rw [blockLine_none s h, blockLine_none (on s ins) h]
  | some j =>
    cases j with
    | xchg k l => rw [blockLine_xchg s k l h, blockLine_xchg (on s ins) k l h, on_xchgLine]
    | probe c l => rw [blockLine_probe s c l h, blockLine_probe (on s ins) c l h, on_probeLine]
    | getpos a l => rw [blockLine_getpos s a l h, blockLine_getpos (on s ins) a l h, on_getposLine]
    | connect rest l => rw [blockLine_connect s rest l h, blockLine_connect (on s ins) rest l h, on_connectLine]

@[simp] theorem blockLine_inputs : s.blockLine.inputs = s.inputs :=
  congrArg State.inputs (a₁ := s.blockLine) (a₂ := on s.blockLine s.inputs) (on_blockLine s.inputs)

@[simp] theorem turn_inputs : s.turn.inputs = s.inputs := by
  obtain h | h := turn_cases s <;> rw [h]
  · exact tickEvent_inputs s
  · exact blockLine_inputs

theorem on_arrive (b : Byte) (ins : List Input) : (on s ins).arrive b = on (s.arrive b) ins := by
  by_cases hst : s.st = .closed
  · rw [arrive_closed s b hst, arrive_closed (on s ins) b hst]
  · cases hf : s.rxFull with
    | true => rw [arrive_full s b hst hf, arrive_full (on s ins) b hst hf]; rfl
    | false => rw [arrive_room s b hst hf, arrive_room (on s ins) b hst hf]; rfl

/-! ### What a command in flight has still to do (R191) -/

/-- R183: the ticks an exchange that polls has still to wait for. -/
def ticksLeft (s : State) : Nat := (s.tmo.toNat + 99 - s.el.toNat) / 100

/-- R191: the ticks an exchange with this timeout waits for. -/
def ticksOf (tmo : BitVec 16) : Nat := (tmo.toNat + 99) / 100

/-- The cost of waiting for `n` ticks, a tick counted as 1 and a line as `c`: with each tick go the count and the two lines of
the next check. With `c = 1` the cost bounds the cycles of a command, with `c = 0` the ticks it waits for. -/
def waitCost (c n : Nat) : Nat := n * (3 * c + 1)

/-- R185: the cost of the lines of `CONNECT` from the ping's answer on: the `clearFaults` exchange and three lines. -/
def clearCost (c : Nat) : Nat := 13 * c + waitCost c 150

/-- R185: the cost of the scan with `n` ports left, an answer from one of them allowed for. -/
def scanCost (c n : Nat) : Nat := 2 * c + n * (17 * c + waitCost c 20) + clearCost c

/-- The cost of the lines of a probe's caller after the probe. -/
def afterProbe (c : Nat) : ProbeCaller → Nat
  | .isconnected => 0
  | .connect rest => 2 * c + scanCost c rest.length

/-- The cost of the lines of an exchange's caller after the exchange. -/
def afterReturn (c : Nat) : XchgCaller → Nat
  | .exchange => 0
  | .getpos _ => 4 * c
  | .probe k => 3 * c + afterProbe c k
  | .clear => 3 * c

/-- The cost of an exchange from the line on; in `Closed` it does not wait (R183). -/
def xchgCost (c : Nat) (s : State) : XchgLine → Nat
  | .test _ tmo => if s.st = .closed then 3 * c else 9 * c + waitCost c (ticksOf tmo)
  | .passDiag _ => 2 * c
  | .passReturn _ => c
  | .write _ tmo => 8 * c + waitCost c (ticksOf tmo)
  | .latch tmo => 7 * c + waitCost c (ticksOf tmo)
  | .avail => 6 * c + waitCost c (ticksLeft s)
  | .check _ => 5 * c + waitCost c (ticksLeft s)
  | .wait => 4 * c + waitCost c (ticksLeft s.countTick + 1)
  | .count => 7 * c + waitCost c (ticksLeft s.countTick)
  | .drain => 4 * c
  | .ready _ => 3 * c
  | .short _ => 2 * c
  | .ret _ => c

def probeCost (c : Nat) : ProbeLine → Nat
  | .compare _ => 3 * c
  | .note _ => 2 * c
  | .ret _ => c

def getposCost (c : Nat) : GetposLine → Nat
  | .valid _ => 4 * c
  | .length _ => 3 * c
  | .chkbad | .badlen | .store _ => 2 * c
  | .ret => c

/-- The cost of `CONNECT` from the line on; in `Idle` it does not wait (R185). -/
def connectCost (c : Nat) (s : State) (n : Nat) : ConnectLine → Nat
  | .test auto _ =>
    if s.st = .idle then 2 * c
    else 2 * c + if auto then scanCost c s.cfg.nPorts else 16 * c + waitCost c 20 + scanCost c 0
  | .mode auto _ => c + if auto then scanCost c s.cfg.nPorts else 16 * c + waitCost c 20 + scanCost c 0
  | .scan => scanCost c n
  | .ask _ => 16 * c + waitCost c 20 + scanCost c n
  | .opening _ => 15 * c + waitCost c 20 + scanCost c n
  | .close | .openfail => 2 * c + scanCost c n
  | .clear => clearCost c
  | .idle => 3 * c
  | .one true => 2 * c
  | .one false => c + scanCost c n
  | .ret _ => c

/-- The cost of what a command at this line has still to do. -/
def jobCost (c : Nat) (s : State) : Option Job → Nat
  | none => 0
  | some (.xchg k l) => xchgCost c s l + afterReturn c k
  | some (.probe k l) => probeCost c l + afterProbe c k
  | some (.getpos _ l) => getposCost c l
  | some (.connect rest l) => connectCost c s rest.length l

/-- The cost of what the command in flight has still to do. -/
def cost (c : Nat) (s : State) : Nat := jobCost c s s.job

theorem waitCost_succ (c n : Nat) : waitCost c (n + 1) = waitCost c n + 3 * c + 1 := by
  simp only [waitCost, Nat.succ_mul, Nat.add_assoc]

theorem ticksLeft_latchTimer (tmo : BitVec 16) : ticksLeft (s.latchTimer tmo) = ticksOf tmo := rfl

theorem el_lt_tmo (h : s.timedOut ≠ true) : s.el.toNat < s.tmo.toNat := by
  simpa [timedOut_iff] using h

/-- R183: where the check finds `EL < TMO`, the ticks left are one more than after the next count. -/
theorem ticksLeft_of_not_timedOut (h : s.timedOut ≠ true) : ticksLeft s = ticksLeft s.countTick + 1 := by
  have hw := el_lt_tmo h
  simp only [ticksLeft, countTick_toNat hw, countTick_tmo]
  omega

/-- A block that has ended its command, or that goes on at a line, has that line's cost left. -/
@[simp] theorem cost_finish (c : Nat) (r : Result) : cost c (s.finish r) = 0 := rfl
@[simp] theorem cost_complete (c : Nat) (v : Value) : cost c (s.complete v) = 0 := rfl
theorem cost_xchg (c : Nat) (k : XchgCaller) (l : XchgLine) :
    cost c (s.goto (.xchg k l)) = xchgCost c s l + afterReturn c k := by
  cases l <;> rfl
theorem cost_probe (c : Nat) (k : ProbeCaller) (l : ProbeLine) :
    cost c (s.goto (.probe k l)) = probeCost c l + afterProbe c k := rfl
theorem cost_getpos (c : Nat) (a : Axis) (l : GetposLine) : cost c (s.goto (.getpos a l)) = getposCost c l := rfl
theorem cost_connect (c : Nat) (rest : List Nat) (l : ConnectLine) :
    cost c (s.goto (.connect rest l)) = connectCost c s rest.length l := by
  cases l <;> rfl

theorem cost_returnPacket (c : Nat) (k : XchgCaller) (p : Packet) : cost c (s.returnPacket k p) = afterReturn c k := by
  cases k <;> rfl

theorem cost_xchgLine (c : Nat) (k : XchgCaller) (l : XchgLine) (hl : l ≠ .wait) :
    cost c (xchgLine k l s) + c ≤ xchgCost c s l + afterReturn c k := by
  cases l with
  | wait => exact absurd rfl hl
  | test p tmo =>
    dsimp only [xchgLine, xchgCost]
    split_ifs <;> simp only [cost_xchg, xchgCost] <;> omega
  | check n =>
    dsimp only [xchgLine, xchgCost]
    split_ifs with h
    · simp only [cost_xchg, xchgCost]; omega
    · have ht := ticksLeft_of_not_timedOut fun ht => h (.inr ht)
      simp only [cost_xchg, xchgCost, ht]; omega
  | short r => dsimp only [xchgLine, xchgCost]; split_ifs <;> simp only [cost_xchg, xchgCost] <;> omega
  | passReturn p => simp only [xchgLine, xchgCost, cost_returnPacket]; omega
  | ret r => simp only [xchgLine, xchgCost, cost_returnPacket]; omega
  | _ => simp only [xchgLine, cost_xchg, xchgCost, ticksLeft_latchTimer]; omega

theorem cost_probeLine (c : Nat) (k : ProbeCaller) (l : ProbeLine) :
    cost c (probeLine k l s) + c ≤ probeCost c l + afterProbe c k := by
  cases l with
  | compare r => simp only [probeLine, cost_probe, probeCost]; omega
  | note ok => cases ok <;> simp [probeLine, cost_probe, probeCost] <;> omega
  | ret ok =>
    cases k with
    | isconnected => simp [probeLine, probeCost]
    | connect rest => cases ok <;> simp [probeLine, cost_connect, connectCost, probeCost, afterProbe, scanCost] <;> omega

theorem cost_getposLine (c : Nat) (a : Axis) (l : GetposLine) : cost c (getposLine a l s) + c ≤ getposCost c l := by
  cases l with
  | valid r => dsimp only [getposLine]; split_ifs <;> simp only [cost_getpos, getposCost] <;> omega
  | length r => dsimp only [getposLine]; split <;> simp only [cost_getpos, getposCost] <;> omega
  | ret => simp [getposLine, getposCost]
  | _ => simp only [getposLine, cost_getpos, getposCost]; omega

theorem cost_connectLine (c : Nat) (rest : List Nat) (l : ConnectLine) :
    cost c (connectLine rest l s) + c ≤ connectCost c s rest.length l := by
  cases l with
  | test auto port => dsimp only [connectLine, connectCost]; split_ifs <;> simp_all [cost_connect, connectCost] <;> omega
  | mode auto port => cases auto <;> simp [connectLine, cost_connect, connectCost] <;> omega
  | scan =>
    cases rest with
    | nil => simp only [connectLine, cost_connect, connectCost, scanCost]; omega
    | cons p ps => simp only [connectLine, cost_connect, connectCost, scanCost, List.length_cons, Nat.succ_mul]; omega
  | ask p =>
    dsimp only [connectLine, connectCost]
    split_ifs <;> simp only [cost_connect, connectCost] <;> omega
  | opening p =>
    have hx : cost c ((s.openPort p).goto (probeStart (.connect rest))) =
        9 * c + waitCost c 20 + (3 * c + (2 * c + scanCost c rest.length)) := rfl
    simp only [connectLine, connectCost, hx]
    omega
  | clear =>
    have hx : xchgCost c s (.test (clearfaultsPacket s.cfg) tDefaultMs) ≤ 9 * c + waitCost c 150 := by
      dsimp only [xchgCost]
      split_ifs
      · omega
      · exact Nat.le_refl _
    simp only [connectLine, connectCost, cost_xchg, afterReturn, clearCost]
    omega
  | one ok => cases ok <;> simp [connectLine, cost_connect, connectCost] <;> omega
  | ret ok => simp [connectLine, connectCost]
  | _ => simp only [connectLine, cost_connect, connectCost]; omega

theorem cost_of_job {j : Option Job} (c : Nat) (h : s.job = j) : cost c s = jobCost c s j := h ▸ rfl

/-- A line costs `c`, but for the line `wait`, which only a tick ends. -/
theorem cost_blockLine (c : Nat) (hb : s.busy = true) (hw : ∀ k, s.job ≠ some (.xchg k .wait)) :
    cost c s.blockLine + c ≤ cost c s := by
  obtain ⟨j, hj⟩ := Option.isSome_iff_exists.1 hb
  rw [cost_of_job c hj]
  cases j with
  | xchg k l => exact blockLine_xchg s k l hj ▸ cost_xchgLine c k l fun hl => hw k (hl ▸ hj)
  | probe k l => exact blockLine_probe s k l hj ▸ cost_probeLine c k l
  | getpos a l => exact blockLine_getpos s a l hj ▸ cost_getposLine c a l
  | connect rest l => exact blockLine_connect s rest l hj ▸ cost_connectLine c rest l

/-- A tick that ends a wait costs 1. -/
theorem cost_count (c : Nat) {k : XchgCaller} (h : s.job = some (.xchg k .wait)) :
    cost c (s.goto (.xchg k .count)) + 1 = cost c s := by
  rw [cost_of_job c h, cost_xchg]
  simp only [jobCost, xchgCost, waitCost_succ]
  omega

theorem cost_turn (hb : s.busy = true) : cost 1 s.turn + 1 ≤ cost 1 s := by
  by_cases hw : ∃ k, s.job = some (.xchg k .wait)
  · obtain ⟨k, hk⟩ := hw
    exact turn_waiting s k hk ▸ (cost_count 1 hk).le
  · have hw : ∀ k, s.job ≠ some (.xchg k .wait) := fun k hk => hw ⟨k, hk⟩
    exact turn_other s hw ▸ cost_blockLine 1 hb hw

/-- The cost is read off the command in flight, the session state and the timer. -/
theorem cost_congr (c : Nat) (hj : t.job = s.job) (hst : t.st = s.st) (htmo : t.tmo = s.tmo) (hel : t.el = s.el)
    (hcfg : t.cfg = s.cfg) : cost c t = cost c s := by
  have hx : ∀ l, xchgCost c t l = xchgCost c s l := fun l => by
    cases l <;> simp only [xchgCost, ticksLeft, countTick_tmo, countTick_el, hst, htmo, hel]
  have hc : ∀ n l, connectCost c t n l = connectCost c s n l := fun n l => by
    unfold connectCost
    simp only [hst, hcfg]
  unfold cost jobCost
  simp only [hj, hx, hc]

theorem cost_arriveAll (c : Nat) (bs : List Byte) : cost c (s.arriveAll bs) = cost c s := by
  apply cost_congr <;> simp

theorem cost_on (c : Nat) (ins : List Input) : cost c (on s ins) = cost c s :=
  cost_congr c rfl rfl rfl rfl rfl

theorem cost_tickEvent (c : Nat) : cost c s.tickEvent ≤ cost c s := by
  obtain h | ⟨k, hk, h⟩ := tickEvent_cases s <;> rw [h]
  exact Nat.le_of_succ_le (cost_count c hk).le

theorem cost_blockLine_le (c : Nat) : cost c s.blockLine ≤ cost c s := by
  by_cases hw : ∃ k, s.job = some (.xchg k .wait)
  · obtain ⟨k, hk⟩ := hw
    exact (congrArg (cost c) (blockLine_xchg s k .wait hk)).le
  · cases hb : s.busy with
    | false => exact (congrArg (cost c) (blockLine_none s ((busy_eq_false_iff s).1 hb))).le
    | true => exact (Nat.le_add_right _ c).trans (cost_blockLine c hb fun k hk => hw ⟨k, hk⟩)

/-! ### Every command ends -/

/-- What stands ready outside is only used up. -/
theorem keptInRun_not_mem (e : Input) : KeptInRun fun u => e ∉ u.inputs where
  inputs _ _ _ hi hs _ := fun h => hs (hi.subset h)
  arrive _ b hu := by rwa [arrive_inputs]
  tick _ hu := by rwa [tickEvent_inputs]
  line _ hu := by rwa [blockLine_inputs]
  reset _ _ hi hu := fun h => hu (hi ▸ List.mem_cons_of_mem _ h)

/-- Each cycle of a command in flight uses up an input or some of the cost. -/
theorem cost_cycle_add_length (hb : s.busy = true) :
    cost 1 s.cycle + s.cycle.inputs.length < cost 1 s + s.inputs.length := by
  have hturn : cost 1 s.turn + s.turn.inputs.length < cost 1 s + s.inputs.length := by
    have := cost_turn hb
    rw [turn_inputs]
    omega
  have hused : ∀ e ins u, s.inputs = e :: ins → u.inputs = ins → cost 1 u ≤ cost 1 s →
      cost 1 u + u.inputs.length < cost 1 s + s.inputs.length := fun e ins u hi hu hc => by
    rw [hi, hu, List.length_cons]
    omega
  unfold State.cycle
  split
  case h_1 => exact hturn
  case h_2 b ins hi => exact hused _ ins _ hi (arrive_inputs _ b) ((cost_arriveAll 1 [b]).trans (cost_on 1 ins)).le
  case h_3 ins hi => exact hused _ ins _ hi (tickEvent_inputs _) ((cost_tickEvent 1).trans (cost_on 1 ins).le)
  case h_4 ins hi => exact hused _ ins _ hi blockLine_inputs ((cost_blockLine_le 1).trans (cost_on 1 ins).le)
  case h_5 ins hi =>
    split
    · exact hturn
    · exact hused _ ins _ hi rfl ((cost_on 1 ins).trans_le (Nat.le_of_succ_le (cost_turn hb)))
  case h_6 ins hi => exact hused _ ins _ hi rfl (cost_on 1 ins).le
  case h_7 ins hi => exact hused _ ins _ hi rfl (Nat.zero_le _)
  case h_8 w ins hi =>
    exact hused _ ins _ hi (arriveAll_inputs _ _) ((cost_arriveAll 1 _).trans (cost_on 1 ins)).le

theorem runFor_ends {n : Nat} (hl : NoLook s) (hn : cost 1 s + s.inputs.length ≤ n) : (s.runFor n).busy = false := by
  induction n generalizing s with
  | zero =>
    cases hb : s.busy with
    | false => rwa [runFor_ended s 0 hb]
    | true => exact absurd (cost_cycle_add_length hb) (by omega)
  | succ n ih =>
    cases hb : s.busy with
    | false => rwa [runFor_ended s _ hb]
    | true =>
      rw [runFor_cycle s n hb fun ins hi => hl (hi ▸ List.mem_cons_self)]
      have hc := cost_cycle_add_length hb
      exact ih ((keptInRun_not_mem .look).cycle hl) (by omega)

theorem ticksOf_le (tmo : BitVec 16) : ticksOf tmo ≤ 656 := by
  have := tmo.isLt
  unfold ticksOf
  omega

theorem ticksLeft_le (s : State) : ticksLeft s ≤ 656 := by
  have := s.tmo.isLt
  unfold ticksLeft
  omega

theorem scanCost_le (n : Nat) : scanCost 1 n ≤ 700 + 100 * n := by
  dsimp only [scanCost, clearCost, waitCost]
  omega

theorem xchgCost_le (s : State) (l : XchgLine) : xchgCost 1 s l ≤ 2700 := by
  have hs := ticksLeft_le s
  have hc := ticksLeft_le s.countTick
  cases l
  case test p tmo => have := ticksOf_le tmo; dsimp only [xchgCost, waitCost]; split_ifs <;> omega
  case write p tmo | latch tmo => have := ticksOf_le tmo; dsimp only [xchgCost, waitCost]; omega
  all_goals dsimp only [xchgCost, waitCost]; omega

theorem probeCost_le (l : ProbeLine) : probeCost 1 l ≤ 3 := by
  cases l <;> simp [probeCost]

theorem getposCost_le (l : GetposLine) : getposCost 1 l ≤ 4 := by
  cases l <;> simp [getposCost]

theorem connectCost_le (s : State) (n : Nat) (l : ConnectLine) :
    connectCost 1 s n l ≤ 1000 + 100 * (s.cfg.nPorts + n) := by
  have hn := scanCost_le n
  have hp := scanCost_le s.cfg.nPorts
  have h0 := scanCost_le 0
  cases l
  case test | mode => dsimp only [connectCost, waitCost]; split_ifs <;> omega
  case one ok => cases ok <;> dsimp only [connectCost] <;> omega
  all_goals dsimp only [connectCost, clearCost, waitCost]; omega

theorem afterProbe_le (k : ProbeCaller) (l : ProbeLine) :
    afterProbe 1 k ≤ 702 + 100 * (Job.probe k l).portsLeft := by
  cases k with
  | isconnected => exact Nat.zero_le _
  | connect rest =>
    have := scanCost_le rest.length
    dsimp only [afterProbe, Job.portsLeft]
    omega

theorem afterReturn_le (k : XchgCaller) (l : XchgLine) :
    afterReturn 1 k ≤ 705 + 100 * (Job.xchg k l).portsLeft := by
  cases k with
  | probe c =>
    have := afterProbe_le c (.ret true)
    cases c <;> dsimp only [afterReturn, Job.portsLeft] at * <;> omega
  | _ => dsimp only [afterReturn]; omega

/-- R191: the bound of a run leaves room for what the command in flight has still to do. -/
theorem cost_le_bound (s : State) : cost 1 s + s.inputs.length ≤ s.bound := by
  cases h : s.job with
  | none =>
    simp only [State.bound, cost_of_job 1 h, jobCost]
    omega
  | some j =>
    simp only [State.bound, cost_of_job 1 h, h]
    cases j with
    | xchg k l =>
      have := xchgCost_le s l
      have := afterReturn_le k l
      dsimp only [jobCost]
      omega
    | probe k l =>
      have := probeCost_le l
      have := afterProbe_le k l
      dsimp only [jobCost]
      omega
    | getpos a l =>
      have := getposCost_le l
      dsimp only [jobCost]
      omega
    | connect rest l =>
      have := connectCost_le s rest.length l
      dsimp only [jobCost, Job.portsLeft]
      omega

/-- R191: with no look outside, the command in flight ends within the bound of its run. -/
theorem resume_ends (hl : NoLook s) : s.resume.busy = false := runFor_ends hl (cost_le_bound s)

theorem exec_answers (i : Instr) (h : s.busy = false) : ∃ t, exec i s = .next t := by
  obtain hp | ⟨j, hj⟩ | rfl | ⟨c, rfl⟩ | ha := instr_kinds s.cfg i
  · exact ⟨_, exec_pure hp h⟩
  · exact ⟨_, exec_firstJob hj h⟩
  · exact ⟨_, exec_disconnect h⟩
  · exact ⟨_, exec_reserved c h⟩
  · obtain ⟨p, hp⟩ := exec_arrival ha
    exact ⟨_, hp s⟩

/-- R5: an instruction that cannot wait ends in the step it starts in and takes nothing that stands ready outside. -/
theorem exec_at_once {i : Instr} (hb : s.busy = false) (hj : firstJob s.cfg i = none) (he : exec i s = .next t) :
    t.busy = false ∧ t.inputs = s.inputs := by
  obtain ⟨-, rfl⟩ | ⟨j, hj', -⟩ | ⟨-, rfl⟩ | ⟨c, -, rfl⟩ | ⟨-, p, rfl⟩ := exec_cases hb he
  · exact ⟨hb, rfl⟩
  · simp [hj] at hj'
  · split <;> exact ⟨rfl, rfl⟩
  · exact ⟨rfl, rfl⟩
  · rw [busy_eq_false_iff] at hb ⊢
    exact ⟨(arriveAll_job s _).trans hb, arriveAll_inputs s _⟩

/-- Settles O9: a command that can wait ends within the bound of its run, and every other in the step it starts in. -/
theorem everyCommandEnds : Obligations.EveryCommandEnds := by
  intro i s hb hl
  obtain ⟨t, ht⟩ := exec_answers i hb
  refine ⟨t, ht, ?_⟩
  cases hj : firstJob s.cfg i with
  | none => exact (exec_at_once hb hj ht).1
  | some j =>
    obtain rfl := Host.Outcome.next.inj ((exec_firstJob hj hb).symm.trans ht)
    exact resume_ends hl

/-! ### Waiting is bounded -/

/-- What a cycle can do (`cycle_cases`), what stands ready outside written apart. -/
theorem cycle_on_cases (s : State) : ∃ before after u, s.cycle = on u after ∧
    ((s.inputs.head? = some .reset ∧ u = (on s before).doReset) ∨ (∃ bs, u = (on s before).arriveAll bs) ∨
     u = (on s before).tickEvent ∨ u = (on s before).blockLine) :=
  cycle_cases s

/-- A cycle uses up no more ticks than it takes off the cost. -/
theorem cost_cycle (c : Nat) : cost c s.cycle + (if tickTaken s then 1 else 0) ≤ cost c s := by
  obtain ⟨before, after, u, hc, hu⟩ := cycle_on_cases s
  rw [hc, cost_on]
  cases ht : tickTaken s with
  | false =>
    obtain ⟨-, rfl⟩ | ⟨bs, rfl⟩ | rfl | rfl := hu
    · exact Nat.zero_le _
    · exact ((cost_arriveAll c bs).trans (cost_on c before)).le
    · exact (cost_tickEvent c).trans (cost_on c before).le
    · exact (cost_blockLine_le c).trans (cost_on c before).le
  | true =>
    obtain ⟨⟨k, hk⟩, k', hk'⟩ := tickTaken_waiting s ht
    have hu' : u.job = some (.xchg k' .count) := (congrArg State.job hc).symm.trans hk'
    have hne : (on s before).job ≠ u.job := by simp [hk, hu']
    obtain ⟨-, rfl⟩ | ⟨bs, rfl⟩ | rfl | rfl := hu
    · cases hu'
    · exact absurd (arriveAll_job _ bs).symm hne
    · exact (tickEvent_waiting (on s before) k hk ▸ cost_count c (s := on s before) hk).trans_le (cost_on c before).le
    · exact absurd (congrArg State.job (blockLine_xchg (on s before) k .wait hk)).symm hne

theorem ticksWaited_le_cost (n : Nat) (s : State) : ticksWaited n s ≤ cost 0 s := by
  induction n generalizing s with
  | zero => exact Nat.zero_le _
  | succ n ih =>
    cases hb : s.busy with
    | false => rw [ticksWaited_ended s _ hb]; exact Nat.zero_le _
    | true =>
      have hc := cost_cycle (s := s) 0
      have hi := ih s.cycle
      rw [ticksWaited_cycle s n hb]
      omega

theorem pingPacket_eq_pingRequest : pingPacket = pingRequest := pingPacket_eq

theorem rowClearfaults_eq_clearRequest (cfg : Config) : rowClearfaults cfg = clearRequest cfg := by
  unfold rowClearfaults clearRequest
  cases cfg.clearfaultsFill <;> rfl

/-- A command that can wait is `CONNECT` or begins with the exchange of its request (R183 to R190). -/
theorem firstJob_cases {cfg : Config} {i : Instr} {j : Job} (hj : firstJob cfg i = some j) :
    (∃ auto port, i = .connect auto port ∧ j = .connect [] (.test auto port)) ∨
    (∃ k p tmo, j = .xchg k (.test p tmo) ∧ requestOf cfg i = some p ∧ instrOwner i ≠ .connect ∧
      waitLimit cfg .closed i = 0 ∧ waitLimit cfg .idle i = ticksOf tmo) := by
  cases i <;> cases hj
  case connect auto port => exact .inl ⟨auto, port, rfl, rfl⟩
  case isconnected => exact .inr ⟨_, _, _, rfl, congrArg some pingPacket_eq_pingRequest.symm, nofun, rfl, rfl⟩
  case getpos a => exact .inr ⟨_, _, _, rfl, congrArg some (readposPacket_eq_readposRequest a).symm, nofun, rfl, rfl⟩
  case wireClearfaults =>
    exact .inr ⟨_, _, _, rfl, congrArg some (rowClearfaults_eq_clearRequest cfg).symm, nofun, rfl, rfl⟩
  all_goals exact .inr ⟨_, _, _, rfl, rfl, nofun, rfl, rfl⟩

theorem afterReturn_of_not_connect {k : XchgCaller} (h : xchgOwner k ≠ .connect) : afterReturn 0 k = 0 := by
  rcases k with _ | _ | (_ | _) | _
  case clear | probe.connect => exact absurd rfl h
  all_goals rfl

/-- R191: what an instruction costs at its first line, ticks alone, is within its limit. -/
theorem cost_started_le {i : Instr} {j : Job} (hst : s.st = .closed ∨ s.st = .idle) (hj : firstJob s.cfg i = some j) :
    cost 0 (started s j) ≤ waitLimit s.cfg s.st i := by
  obtain ⟨auto, port, rfl, rfl⟩ | ⟨k, p, tmo, rfl, -, ho, hclosed, hidle⟩ := firstJob_cases hj
  · obtain hst | hst := hst <;> cases auto <;>
      simp [started, cost_connect, connectCost, scanCost, clearCost, waitCost, waitLimit, hst]
  · have hk : afterReturn 0 k = 0 := afterReturn_of_not_connect fun h => ho ((jobOwner_firstJob hj).symm.trans h)
    obtain hst | hst := hst <;> simp [started, cost_xchg, xchgCost, waitCost, hst, hk, hclosed, hidle]

/-- A property that each part of the run of `o`'s command keeps, reset apart. -/
structure KeptBy (o : Owner) (P : State → Prop) : Prop where
  inputs : ∀ s ins, P s → P (on s ins)
  arrive : ∀ s b, P s → P (s.arrive b)
  tick : ∀ s k, s.job = some (.xchg k .wait) → P s → P (s.goto (.xchg k .count))
  line : ∀ s, OwnedBy o s → P s → P s.blockLine

theorem KeptBy.keptInRun {P : State → Prop} (hk : KeptBy o P) : KeptInRun fun u => NoReset u ∧ OwnedBy o u ∧ P u where
  inputs s u ins hi := fun ⟨hs, _⟩ ⟨_, ho, hu⟩ => ⟨fun h => hs (hi.subset h), ho, hk.inputs u ins hu⟩
  arrive u b := fun ⟨hn, ho, hu⟩ =>
    ⟨(keptInRun_not_mem .reset).arrive u b hn, (effect_arrive b).owned ho, hk.arrive u b hu⟩
  tick u := fun ⟨hn, ho, hu⟩ =>
    have ht : P u.tickEvent := by
      obtain h | ⟨k, hj, h⟩ := tickEvent_cases u <;> rw [h]
      · exact hu
      · exact hk.tick u k hj hu
    ⟨(keptInRun_not_mem .reset).tick u hn, (effect_tickEvent ho).owned ho, ht⟩
  line u := fun ⟨hn, ho, hu⟩ =>
    ⟨(keptInRun_not_mem .reset).line u hn, (effect_blockLine ho).owned ho, hk.line u ho hu⟩
  reset u ins hi := fun ⟨hn, _⟩ => absurd (hi ▸ List.mem_cons_self) hn

theorem KeptBy.resume {P : State → Prop} (hk : KeptBy o P) (hn : NoReset s) (ho : OwnedBy o s) (h : P s) : P s.resume :=
  (hk.keptInRun.resume ⟨hn, ho, h⟩).2.2

/-- What a command that can wait keeps from its first line on holds at its end. -/
theorem KeptBy.exec {P : State → Prop} {i : Instr} {j : Job} (hk : KeptBy (instrOwner i) P) (hb : s.busy = false)
    (hn : NoReset s) (hl : NoLook s) (hj : firstJob s.cfg i = some j) (h : P (started s j)) (he : exec i s = .next t) :
    t.job = none ∧ P t := by
  obtain rfl := Host.Outcome.next.inj ((exec_firstJob hj hb).symm.trans he)
  have hown : OwnedBy (instrOwner i) (started s j) := fun _ hj' => Option.some.inj hj' ▸ jobOwner_firstJob hj
  exact ⟨(busy_eq_false_iff _).1 (resume_ends (s := started s j) hl), hk.resume (s := started s j) hn hown h⟩

/-- R183, R27: the timer of an exchange with this timeout: `EL` counts its ticks in steps of 100. -/
def Elapsed (tmo : BitVec 16) (s : State) : Prop :=
  s.tmo = tmo ∧ s.el.toNat % 100 = 0 ∧ s.el.toNat ≤ 100 * ticksOf tmo

/-- The timer along a command that runs the exchange of a packet with this timeout, started where it waits. -/
def Timed (tmo : BitVec 16) (s : State) : Prop :=
  match s.job with
  | some (.xchg _ (.test _ tmo')) => tmo' = tmo ∧ s.st ≠ .closed
  | some (.xchg _ (.write _ tmo')) => tmo' = tmo
  | some (.xchg _ (.latch tmo')) => tmo' = tmo
  | some (.xchg _ (.passDiag _)) | some (.xchg _ (.passReturn _)) => False
  | some (.xchg _ .wait) | some (.xchg _ .count) => Elapsed tmo s ∧ s.el.toNat < s.tmo.toNat
  | _ => Elapsed tmo s

theorem timed_returnPacket {k : XchgCaller} {p : Packet} {tmo : BitVec 16} (h : Elapsed tmo s) :
    Timed tmo (s.returnPacket k p) := by
  cases k <;> exact h

theorem elapsed_countTick {tmo : BitVec 16} (h : Elapsed tmo s) (hw : s.el.toNat < s.tmo.toNat) :
    Elapsed tmo s.countTick := by
  obtain ⟨rfl, hm, hl⟩ := h
  refine ⟨rfl, ?_, ?_⟩ <;> rw [countTick_toNat hw]
  · omega
  · unfold ticksOf at *
    omega

theorem timed_xchgLine {k : XchgCaller} {l : XchgLine} {tmo : BitVec 16} (hj : s.job = some (.xchg k l))
    (hs : Timed tmo s) : Timed tmo (xchgLine k l s) := by
  have h := hs
  unfold Timed at h
  rw [hj] at h
  cases l with
  | test p tmo' =>
    simp only [xchgLine, if_neg h.2]
    exact h.1
  | passDiag p => exact h.elim
  | passReturn p => exact h.elim
  | write p tmo' => exact h
  | latch tmo' => exact h ▸ ⟨rfl, rfl, Nat.zero_le _⟩
  | check n =>
    dsimp only [xchgLine]
    split_ifs with hn
    · exact h
    · exact ⟨h, el_lt_tmo fun ht => hn (.inr ht)⟩
  | wait => exact hs
  | count => exact elapsed_countTick h.1 h.2
  | short r => dsimp only [xchgLine]; split_ifs <;> exact h
  | ret r => exact timed_returnPacket h
  | _ => exact h

theorem timed_probeLine {c : ProbeCaller} {l : ProbeLine} {tmo : BitVec 16} (hc : probeOwner c ≠ .connect)
    (h : Elapsed tmo s) : Timed tmo (probeLine c l s) := by
  cases l with
  | compare r => exact h
  | note ok => cases ok <;> exact h
  | ret ok =>
    cases c with
    | isconnected => exact h
    | connect rest => exact absurd rfl hc

theorem timed_getposLine {a : Axis} {l : GetposLine} {tmo : BitVec 16} (h : Elapsed tmo s) :
    Timed tmo (getposLine a l s) := by
  cases l
  case valid => dsimp only [getposLine]; split_ifs <;> exact h
  case length => dsimp only [getposLine]; split <;> exact h
  all_goals exact h

theorem keptBy_timed {tmo : BitVec 16} (ho : o ≠ .connect) : KeptBy o (Timed tmo) where
  inputs _ _ h := h
  arrive s b h := by simpa [Timed, Elapsed] using h
  tick s k hj h := by
    unfold Timed at h
    rw [hj] at h
    exact h
  line s hs h := by
    cases hj : s.job with
    | none => rwa [blockLine_none s hj]
    | some j =>
      have hown := hs j hj
      cases j with
      | xchg k l => exact blockLine_xchg s k l hj ▸ timed_xchgLine hj h
      | probe c l =>
        unfold Timed at h
        rw [hj] at h
        have hc : probeOwner c = o := hown
        exact blockLine_probe s c l hj ▸ timed_probeLine (hc ▸ ho) h
      | getpos a l =>
        unfold Timed at h
        rw [hj] at h
        exact blockLine_getpos s a l hj ▸ timed_getposLine h
      | connect rest l => exact absurd hown.symm ho

/-- R183: where a command starts in `Idle` with the exchange of a packet, the timer at its end is that of the exchange. -/
theorem elapsed_of_exec {i : Instr} {k : XchgCaller} {p : Packet} {tmo : BitVec 16} (hb : s.busy = false) (hn : NoReset s)
    (hl : NoLook s) (hst : s.st = .idle) (hj : firstJob s.cfg i = some (.xchg k (.test p tmo)))
    (ho : instrOwner i ≠ .connect) (he : exec i s = .next t) : t.tmo = tmo ∧ t.el.toNat ≤ 100 * ticksOf tmo := by
  have hstart : Timed tmo (started s (.xchg k (.test p tmo))) := ⟨rfl, fun hc : s.st = .closed => by simp [hst] at hc⟩
  obtain ⟨hnone, hend⟩ := (keptBy_timed ho).exec hb hn hl hj hstart he
  unfold Timed at hend
  rw [hnone] at hend
  obtain ⟨htmo, -, hel⟩ := hend
  exact ⟨htmo, hel⟩

/-- Settles O57: the first bound and the second are those of the cost and of `exec_at_once`, and the timer's is
`elapsed_of_exec`. -/
theorem waitingIsBounded : Obligations.WaitingIsBounded := by
  refine ⟨fun s i j n hc hb hj => ⟨exec_firstJob hj hb, ?_⟩, fun s t i hb hj he => exec_at_once hb hj he,
    fun s t hc hb hn hl hst => ⟨fun p tmo he => ?_, fun a he => ?_, fun he => ?_⟩⟩
  · have hst := (atRest_of_coherent hc ((busy_eq_false_iff s).1 hb)).st_ok
    exact (ticksWaited_le_cost n _).trans (cost_started_le hst hj)
  · exact elapsed_of_exec (i := .exchange p tmo) hb hn hl hst rfl nofun he
  · exact elapsed_of_exec (i := .getpos a) hb hn hl hst rfl nofun he
  · exact elapsed_of_exec (i := .isconnected) hb hn hl hst rfl nofun he

end Sys2Proof.Proofs

/-! Proofs for the family 42_transport.md, continued: what a run reaches from one state to the next, the walk of a command
along its lines and ticks, and the statements about the exchanges on a quiet line. -/

namespace Sys2Proof.Proofs

open Sys2Proof.Machine

variable {s t u v w : State} {acts acts' ins : List Input} {k : XchgCaller} {p : Packet} {tmo : BitVec 16}

/-! ### What a run reaches -/

/-- The run of the command in flight comes from `s` to `t`. -/
def Reaches (s t : State) : Prop := ∃ n, ∀ m, s.runFor (n + m) = t.runFor m

theorem Reaches.refl (s : State) : Reaches s s := ⟨0, fun m => by rw [Nat.zero_add]⟩

theorem Reaches.trans (h₁ : Reaches s t) (h₂ : Reaches t u) : Reaches s u := by
  obtain ⟨n₁, h₁⟩ := h₁
  obtain ⟨n₂, h₂⟩ := h₂
  exact ⟨n₁ + n₂, fun m => by rw [Nat.add_assoc, h₁, h₂]⟩

/-- One cycle of a command in flight. -/
theorem reaches_cycle (hb : s.busy = true) (hl : ∀ ins, s.inputs ≠ .look :: ins) (h : s.cycle = t) : Reaches s t :=
  ⟨1, fun m => by rw [Nat.add_comm, runFor_cycle s m hb hl, h]⟩

/-- With no look outside, the run comes to its end. -/
theorem reaches_resume (hl : NoLook s) : Reaches s s.resume :=
  have he := resume_ends hl
  ⟨s.bound, fun m => (runFor_enough s s.bound m he).trans (runFor_ended s.resume m he).symm⟩

/-- An ended state that the run reaches is the one it answers. -/
theorem Reaches.resume_eq (h : Reaches s t) (hl : NoLook s) (ht : t.busy = false) : s.resume = t := by
  obtain ⟨n, hn⟩ := h
  calc s.resume = s.runFor (s.bound + n) := (runFor_enough s s.bound n (resume_ends hl)).symm
    _ = t.runFor s.bound := by rw [Nat.add_comm, hn]
    _ = t := runFor_ended t _ ht

/-- A command that can wait, run from its first line on. -/
theorem exec_of_reaches {i : Instr} {j : Job} (hb : s.busy = false) (hl : NoLook s) (hj : firstJob s.cfg i = some j)
    (hi : s.inputs = ins) (h : Reaches (on (s.accept.goto j) ins) t) (ht : t.busy = false) : exec i s = .next t := by
  have hs : on (s.accept.goto j) ins = started s j := on_eq_self hi
  have hr : Reaches (started s j) t := hs ▸ h
  rw [exec_firstJob hj hb, hr.resume_eq hl ht]

theorem on_cycle_rx (b : Byte) : (on u (.rx b :: ins)).cycle = on (u.arrive b) ins :=
  (cycle_rx (on u (.rx b :: ins)) b ins rfl).trans (on_arrive (s := u) b ins)

theorem on_cycle_go : (on u (.go :: ins)).cycle = on u.blockLine ins :=
  (cycle_go (on u (.go :: ins)) ins rfl).trans (on_blockLine (s := u) ins)

theorem on_cycle_tick (h : u.job = some (.xchg k .wait)) :
    (on u (.tick :: ins)).cycle = on (u.goto (.xchg k .count)) ins :=
  (cycle_tick (on u (.tick :: ins)) ins rfl).trans (tickEvent_waiting (on u ins) k h)

theorem on_turn : (on u ins).turn = on u.turn ins := by
  by_cases hw : ∃ k, u.job = some (.xchg k .wait)
  · obtain ⟨k, hk⟩ := hw
    rw [turn_waiting u k hk, turn_waiting (on u ins) k hk]
    rfl
  · have hw : ∀ k, u.job ≠ some (.xchg k .wait) := fun k hk => hw ⟨k, hk⟩
    rw [turn_other u hw, turn_other (on u ins) hw, on_blockLine]

theorem on_cycle_quiet : (on u []).cycle = on u.turn [] :=
  (cycle_quiet (on u []) rfl).trans (on_turn (u := u))

theorem on_cycle_await : (on u [.await]).cycle = on u.turn (if u.turn.busy then [.await] else []) := by
  rw [cycle_await (on u [.await]) [] rfl, on_turn, on_busy]
  cases u.turn.busy <;> rfl

theorem reaches_rx (bs : List Byte) (hb : u.busy = true) : Reaches (on u (bs.map .rx ++ ins)) (on (u.arriveAll bs) ins) := by
  induction bs generalizing u with
  | nil => exact .refl _
  | cons b bs ih =>
    have hb' : (u.arrive b).busy = true := (congrArg Option.isSome (arrive_job u b)).trans hb
    exact (reaches_cycle (s := on u (.rx b :: (bs.map .rx ++ ins))) hb nofun (on_cycle_rx b)).trans (ih hb')

/-! ### The walk of a command along its lines and ticks -/

/-- The block comes from one state to another by lines (`go`) and by ticks that end a wait (`tick`), in this order. -/
inductive Walk : List Input → State → State → Prop
  | done (u : State) : Walk [] u u
  | line {acts : List Input} {u v : State} : u.busy = true → (∀ k, u.job ≠ some (.xchg k .wait)) →
      Walk acts u.blockLine v → Walk (.go :: acts) u v
  | tick {acts : List Input} {u v : State} (k : XchgCaller) : u.job = some (.xchg k .wait) →
      Walk acts (u.goto (.xchg k .count)) v → Walk (.tick :: acts) u v

theorem Walk.trans (h : Walk acts u v) (h' : Walk acts' v w) : Walk (acts ++ acts') u w := by
  induction h with
  | done u => exact h'
  | line hb hw _ ih => exact .line hb hw (ih h')
  | tick k hk _ ih => exact .tick k hk (ih h')

theorem Walk.of_eq (h : Walk acts u v) (he : acts = acts') : Walk acts' u v := he ▸ h

theorem Walk.eq_of_not_busy (h : Walk acts u v) (hu : u.busy = false) : u = v := by
  cases h with
  | done => rfl
  | line hb => simp [hu] at hb
  | tick k hk => simp [State.busy, hk] at hu

theorem busy_of_job {j : Job} (h : u.job = some j) : u.busy = true := congrArg Option.isSome h

/-- A walk that the inputs prescribe. -/
theorem Walk.reaches (h : Walk acts u v) : Reaches (on u (acts ++ ins)) (on v ins) := by
  induction h with
  | done u => exact .refl _
  | @line acts u v hb _ _ ih => exact (reaches_cycle (s := on u (.go :: (acts ++ ins))) hb nofun on_cycle_go).trans ih
  | @tick acts u v k hk _ ih =>
    exact (reaches_cycle (s := on u (.tick :: (acts ++ ins))) (busy_of_job hk) nofun (on_cycle_tick hk)).trans ih

/-- R29: with nothing outside but ticks, every walk is taken. -/
theorem Walk.reaches_quiet (h : Walk acts u v) : Reaches (on u []) (on v []) := by
  induction h with
  | done u => exact .refl _
  | @line acts u v hb hw _ ih =>
    rw [← turn_other u hw] at ih
    exact (reaches_cycle (s := on u []) hb nofun on_cycle_quiet).trans ih
  | @tick acts u v k hk _ ih =>
    rw [← turn_waiting u k hk] at ih
    exact (reaches_cycle (s := on u []) (busy_of_job hk) nofun on_cycle_quiet).trans ih

/-- A turn while the outside awaits the end of the command. -/
theorem reaches_await_turn (hb : u.busy = true) (h : Walk acts u.turn v)
    (ih : u.turn.busy = true → Reaches (on u.turn [.await]) (on v [])) : Reaches (on u [.await]) (on v []) := by
  have hc := reaches_cycle (s := on u [.await]) hb nofun on_cycle_await
  cases hn : u.turn.busy with
  | true => exact (if_pos hn ▸ hc).trans (ih hn)
  | false =>
    rw [hn, h.eq_of_not_busy hn] at hc
    exact hc

/-- The same when the outside awaits the command's end. -/
theorem Walk.reaches_await (h : Walk acts u v) (hu : u.busy = true) (hv : v.busy = false) :
    Reaches (on u [.await]) (on v []) := by
  induction h with
  | done u => simp [hu] at hv
  | @line acts u v hb hw h ih =>
    rw [← turn_other u hw] at h ih
    exact reaches_await_turn hb h fun hn => ih hn hv
  | @tick acts u v k hk h ih =>
    rw [← turn_waiting u k hk] at h ih
    exact reaches_await_turn hu h fun hn => ih hn hv

theorem Walk.exec_quiet {i : Instr} {j : Job} (hq : Quiet s) (hj : firstJob s.cfg i = some j)
    (h : Walk acts (s.accept.goto j) t) (ht : t.busy = false) : exec i s = .next (on t []) := by
  obtain ⟨hjob, hi⟩ := hq
  exact exec_of_reaches ((busy_eq_false_iff s).2 hjob) (by simp [NoLook, hi]) hj hi h.reaches_quiet ht

/-! ### The walk of an exchange (R183) -/

theorem goto_leaveOpening (j j' : Job) : (s.goto j).leaveOpening.goto j' = s.leaveOpening.goto j' := by
  by_cases h : s.st = .opening
  · rw [leaveOpening_opening s h, leaveOpening_opening (s.goto j) h]
    rfl
  · rw [leaveOpening_other s h, leaveOpening_other (s.goto j) h]
    rfl

theorem goto_returnPacket (j : Job) : (s.goto j).returnPacket k p = s.returnPacket k p := by
  cases k <;> rfl

/-- R183 in `Closed`: the packet is passed through. -/
theorem walk_xchg_closed (h : s.st = .closed) :
    Walk (List.replicate 3 .go) (s.goto (.xchg k (.test p tmo))) ((s.note .passthru).returnPacket k p) := by
  have htest : (s.goto (.xchg k (.test p tmo))).blockLine = s.goto (.xchg k (.passDiag p)) := if_pos h
  have hret : ((s.note .passthru).goto (.xchg k (.passReturn p))).blockLine = (s.note .passthru).returnPacket k p :=
    goto_returnPacket _
  exact .line rfl nofun (htest ▸ .line rfl nofun (.line rfl nofun (hret ▸ .done _)))

/-- R183: the request is written. -/
theorem walk_write (h : s.st ≠ .closed) : Walk (List.replicate 2 .go) (s.goto (.xchg k (.test p tmo)))
    ((s.txWrite (bytesOf p)).leaveOpening.goto (.xchg k (.latch tmo))) := by
  have htest : (s.goto (.xchg k (.test p tmo))).blockLine = s.goto (.xchg k (.write p tmo)) := if_neg h
  have hwrite : (s.goto (.xchg k (.write p tmo))).blockLine =
      (s.txWrite (bytesOf p)).leaveOpening.goto (.xchg k (.latch tmo)) := goto_leaveOpening (s := s.txWrite _) _ _
  exact .line rfl nofun (htest ▸ .line rfl nofun (hwrite ▸ .done _))

/-- R183: the timer is latched and the queue is counted for the first check. -/
theorem walk_latch : Walk (List.replicate 2 .go) (s.goto (.xchg k (.latch tmo)))
    ((s.latchTimer tmo).goto (.xchg k (.check s.rxq.length))) :=
  .line rfl nofun (.line rfl nofun (.done _))

/-- R183: a tick, its count and the two lines of the next check. -/
def tickRound : List Input := [.tick, .go, .go, .go]

/-- R183: the check that finds four bytes. -/
theorem walk_check_answered (h : 4 ≤ s.rxq.length) :
    Walk [.go] (s.goto (.xchg k (.check s.rxq.length))) (s.goto (.xchg k .drain)) := by
  have hc : (s.goto (.xchg k (.check s.rxq.length))).blockLine = s.goto (.xchg k .drain) := if_pos (.inl h)
  exact .line rfl nofun (hc ▸ .done _)

/-- R183: the check that finds fewer bytes and `EL < TMO`. -/
theorem walk_check_wait (h : s.rxq.length < 4) (ht : s.timedOut ≠ true) :
    Walk [.go] (s.goto (.xchg k (.check s.rxq.length))) (s.goto (.xchg k .wait)) := by
  have hc : (s.goto (.xchg k (.check s.rxq.length))).blockLine = s.goto (.xchg k .wait) :=
    if_neg (not_or.2 ⟨Nat.not_le_of_lt h, ht⟩)
  exact .line rfl nofun (hc ▸ .done _)

/-- R183: from a tick to the next check. -/
theorem walk_tick : Walk [.tick, .go, .go] (s.goto (.xchg k .wait))
    (s.countTick.goto (.xchg k (.check s.rxq.length))) :=
  .tick k rfl (.line rfl nofun (.line rfl nofun (.done _)))

/-- R183: the poll loop of a silent line, from its first check to its timeout. -/
theorem walk_check_silent (h : s.rxq.length < 4) :
    Walk (.go :: (List.replicate (ticksLeft s) tickRound).flatten) (s.goto (.xchg k (.check s.rxq.length)))
      ((State.countTick^[ticksLeft s] s).goto (.xchg k .drain)) := by
  induction hn : ticksLeft s generalizing s with
  | zero =>
    have ht : s.timedOut = true := by
      by_contra ht
      simp [ticksLeft_of_not_timedOut ht] at hn
    have hc : (s.goto (.xchg k (.check s.rxq.length))).blockLine = s.goto (.xchg k .drain) := if_pos (.inr ht)
    exact .line rfl nofun (hc ▸ .done _)
  | succ n ih =>
    have ht : s.timedOut ≠ true := fun ht => by
      rw [timedOut_iff] at ht
      unfold ticksLeft at hn
      omega
    have hn' : ticksLeft s.countTick = n := Nat.succ.inj ((ticksLeft_of_not_timedOut ht).symm.trans hn)
    exact (walk_check_wait h ht).trans (walk_tick.trans (ih (s := s.countTick) h hn'))

/-- R183: the registers at the return of an exchange that has drained the bytes `r`. -/
def returned (s : State) (r : List Byte) : State :=
  if r.length < 4 then s.setReady.note .timeout else s.setReady

/-- R183: the registers after the drain and the return of an exchange. -/
def drained (s : State) : State := returned s.rxClear s.rxq

/-- R183: from the line after the drain to the return. -/
theorem walk_ready (r : List Byte) :
    Walk (List.replicate 3 .go) (s.goto (.xchg k (.ready r))) ((returned s r).returnPacket k (packetOf r)) := by
  have hshort : (s.setReady.goto (.xchg k (.short r))).blockLine = (returned s r).goto (.xchg k (.ret r)) :=
    (apply_ite (State.goto · (.xchg k (.ret r))) (r.length < 4) (s.setReady.note .timeout) s.setReady).symm
  have hret : ((returned s r).goto (.xchg k (.ret r))).blockLine = (returned s r).returnPacket k (packetOf r) :=
    goto_returnPacket _
  exact .line rfl nofun (.line rfl nofun (hshort ▸ .line rfl nofun (hret ▸ .done _)))

theorem walk_drain : Walk [.go] (s.goto (.xchg k .drain)) (s.rxClear.goto (.xchg k (.ready s.rxq))) :=
  .line rfl nofun (.done _)

/-- The rounds of the poll loop on a line that is silent from the first check on. -/
def roundsOf (s : State) (tmo : BitVec 16) : Nat := if 4 ≤ s.rxq.length then 0 else ticksOf tmo

/-- R183: the registers at the drain, on a line that is silent from the latch on. -/
def polled (s : State) (tmo : BitVec 16) : State := State.countTick^[roundsOf s tmo] (s.latchTimer tmo)

theorem iterate_countTick (n : Nat) (s : State) :
    State.countTick^[n] s = { s with el := s.el + BitVec.ofNat 17 (100 * n) } := by
  induction n generalizing s with
  | zero => simp
  | succ n ih =>
    have hadd : 100#17 + BitVec.ofNat 17 (100 * n) = BitVec.ofNat 17 (100 * (n + 1)) := by
      rw [← BitVec.ofNat_add, Nat.mul_succ, Nat.add_comm]
    rw [Function.iterate_succ_apply, ih, State.countTick, BitVec.add_assoc, hadd]

theorem polled_eq (s : State) (tmo : BitVec 16) :
    polled s tmo = { s.latchTimer tmo with el := BitVec.ofNat 17 (100 * roundsOf s tmo) } := by
  rw [polled, iterate_countTick]
  simp

/-- R183: from the latch to the return, on a silent line. -/
theorem walk_latch_return :
    Walk (List.replicate 3 .go ++ (List.replicate (roundsOf s tmo) tickRound).flatten ++ List.replicate 4 .go)
      (s.goto (.xchg k (.latch tmo))) ((drained (polled s tmo)).returnPacket k (packetOf s.rxq)) := by
  have hq : (polled s tmo).rxq = s.rxq := by rw [polled_eq]; rfl
  have hloop : Walk (.go :: (List.replicate (roundsOf s tmo) tickRound).flatten)
      ((s.latchTimer tmo).goto (.xchg k (.check s.rxq.length))) ((polled s tmo).goto (.xchg k .drain)) := by
    by_cases h : 4 ≤ s.rxq.length
    · have hr : roundsOf s tmo = 0 := if_pos h
      rw [polled, hr]
      exact walk_check_answered (s := s.latchTimer tmo) h
    · have hr : roundsOf s tmo = ticksLeft (s.latchTimer tmo) := if_neg h
      rw [polled, hr]
      exact walk_check_silent (s := s.latchTimer tmo) (Nat.lt_of_not_le h)
  rw [← hq]
  exact (walk_latch.trans hloop).trans (walk_drain.trans (walk_ready _))

theorem drained_polled (s : State) (tmo : BitVec 16) :
    drained (polled s tmo) =
      { s with
        tmo := tmo, ph := .ready, rxq := [], el := if 4 ≤ s.rxq.length then 0#17 else lastCheck tmo,
        diag := if 4 ≤ s.rxq.length then s.diag else s.diag ||| 0x02#8 } := by
  rw [polled_eq]
  by_cases hq : 4 ≤ s.rxq.length
  · have hn : ¬ s.rxq.length < 4 := Nat.not_lt.2 hq
    simp [drained, returned, roundsOf, hq, hn, State.latchTimer, State.rxClear, State.setReady]
  · have hn : s.rxq.length < 4 := Nat.lt_of_not_le hq
    simp [drained, returned, roundsOf, hq, hn, State.latchTimer, State.rxClear, State.setReady, State.note, lastCheck,
      ticksOf, DiagBit.mask, DiagBit.index]

/-- The packet of an exchange in an open session is that of the bytes in the queue. -/
theorem answerTo_closed (h : s.st = .closed) : answerTo s p = p := if_pos h

theorem answerTo_open (h : s.st ≠ .closed) : answerTo s p = packetOf s.rxq := by
  rw [answerTo, if_neg h]
  rfl

theorem leaveOpening_st_ne_closed (h : s.st ≠ .closed) : s.leaveOpening.st ≠ .closed := by
  by_cases ho : s.st = .opening
  · rw [leaveOpening_opening s ho]
    exact nofun
  · rwa [leaveOpening_other s ho]

theorem txWrite_leaveOpening (bs : List Byte) : (s.txWrite bs).leaveOpening = s.leaveOpening.txWrite bs := by
  by_cases h : s.st = .opening
  · rw [leaveOpening_opening s h, leaveOpening_opening (s.txWrite bs) h]
    rfl
  · rw [leaveOpening_other s h, leaveOpening_other (s.txWrite bs) h]

theorem afterXchg_open (h : s.st ≠ .closed) :
    afterXchg s p tmo = drained (polled (s.txWrite (bytesOf p)) tmo) := by
  rw [drained_polled, afterXchg, if_neg h]
  by_cases hq : 4 ≤ s.rxq.length <;> simp [hq, State.txWrite, bytesOf, sent]

/-- R183 on a quiet line, from any session state: `Opening` becomes `Probing` in the step of the write. -/
theorem walk_xchg (s : State) (k : XchgCaller) (p : Packet) (tmo : BitVec 16) :
    ∃ acts, Walk acts (s.goto (.xchg k (.test p tmo))) ((afterXchg s.leaveOpening p tmo).returnPacket k (answerTo s p)) := by
  by_cases h : s.st = .closed
  · have ho : s.leaveOpening = s := leaveOpening_other s (by simp [h])
    have hx : afterXchg s p tmo = s.note .passthru := if_pos h
    rw [ho, hx, answerTo_closed h]
    exact ⟨_, walk_xchg_closed h⟩
  · have hx := afterXchg_open (p := p) (tmo := tmo) (leaveOpening_st_ne_closed h)
    rw [← txWrite_leaveOpening] at hx
    have hq : (s.txWrite (bytesOf p)).leaveOpening.rxq = s.rxq := leaveOpening_rxq _
    rw [hx, answerTo_open h, ← hq]
    exact ⟨_, (walk_write h).trans walk_latch_return⟩

/-! ### The commands that exchange one packet, on a quiet line -/

@[simp] theorem afterXchg_inputs : (afterXchg s p tmo).inputs = s.inputs := by
  unfold afterXchg; split_ifs <;> rfl

@[simp] theorem afterXchg_job : (afterXchg s p tmo).job = s.job := by
  unfold afterXchg; split_ifs <;> rfl

@[simp] theorem afterXchg_lastpos : (afterXchg s p tmo).lastpos = s.lastpos := by
  unfold afterXchg; split_ifs <;> rfl

@[simp] theorem afterXchg_cfg : (afterXchg s p tmo).cfg = s.cfg := by
  unfold afterXchg; split_ifs <;> rfl

theorem afterXchg_accept : afterXchg s.accept p tmo = (afterXchg s p tmo).accept := by
  simp only [afterXchg, accept_st, accept_rxq, apply_ite State.accept]
  rfl

theorem quiet_afterXchg (h : Quiet s) : Quiet (afterXchg s p tmo) := by
  simpa [Quiet] using h

/-- A command that ends while nothing stands ready outside. -/
theorem on_accept_complete (h : Quiet s) (x : Value) : on (s.accept.complete x) [] = endedWith s x := by
  obtain ⟨hj, hi⟩ := h
  rw [accept_complete s ((busy_eq_false_iff s).2 hj)]
  exact on_eq_self (s := endedWith s x) hi

/-- A command that exchanges one packet on a quiet line, and then walks on to its end. -/
theorem exec_xchg_quiet {i : Instr} {x : Value} (hq : Quiet s) (hst : s.st = .closed ∨ s.st = .idle)
    (hj : firstJob s.cfg i = some (.xchg k (.test p tmo))) (hu : Quiet u)
    (h : Walk acts ((afterXchg s p tmo).accept.returnPacket k (answerTo s p)) (u.accept.complete x)) :
    exec i s = .next (endedWith u x) := by
  have ho : s.accept.leaveOpening = s.accept := leaveOpening_other _ fun hs : s.st = .opening => by simp [hs] at hst
  obtain ⟨acts', hw⟩ := walk_xchg s.accept k p tmo
  rw [ho, afterXchg_accept] at hw
  rw [← on_accept_complete hu]
  exact (hw.trans h).exec_quiet hq hj rfl

/-- Settles O42: the exchange's packet is the result. -/
theorem exchangeOnAQuietLine : Obligations.ExchangeOnAQuietLine := by
  intro s args hq hst hl
  exact ⟨withPkt_of_fits (f := (.exchange · args.tmo)) hl, exec_xchg_quiet hq hst rfl (quiet_afterXchg hq) (.done _)⟩

/-- R184: the lines of a probe after its exchange, when the signature was drained. -/
theorem walk_probe_true {c : ProbeCaller} :
    Walk (List.replicate 2 .go) (s.goto (.probe c (.compare sigPacket))) (s.goto (.probe c (.ret true))) := by
  have hc : (s.goto (.probe c (.compare sigPacket))).blockLine = s.goto (.probe c (.note true)) := by
    simp [State.blockLine, probeLine]
    rfl
  exact .line rfl nofun (hc ▸ .line rfl nofun (.done _))

/-- R184: the same when other bytes were drained, or none. -/
theorem walk_probe_false {c : ProbeCaller} {r : Packet} (h : r ≠ sigPacket) :
    Walk (List.replicate 2 .go) (s.goto (.probe c (.compare r))) ((s.note .probefail).goto (.probe c (.ret false))) := by
  have hc : (s.goto (.probe c (.compare r))).blockLine = s.goto (.probe c (.note false)) := by
    simp [State.blockLine, probeLine, h]
    rfl
  exact .line rfl nofun (hc ▸ .line rfl nofun (.done _))

/-- R184: the signature's packet is that of the signature alone. -/
theorem packetOf_eq_sigPacket_iff {bs : List Byte} : packetOf bs = sigPacket ↔ bs = pingSig := by
  refine ⟨fun h => ?_, fun h => h ▸ rfl⟩
  by_cases hl : 4 ≤ bs.length
  · calc bs = bytesOf (packetOf bs) := (bytesOf_packetOf hl).symm
      _ = pingSig := by rw [h]; rfl
  · rw [packetOf_short bs (Nat.lt_of_not_le hl)] at h
    exact absurd h (by decide)

/-- Settles O43: the probe compares the packet of the exchange with the signature's. -/
theorem isconnectedOnAQuietLine : Obligations.IsconnectedOnAQuietLine := by
  intro s args hq hst
  have hj : firstJob s.cfg .isconnected = some (.xchg (.probe .isconnected) (.test pingRequest 2000#16)) :=
    pingPacket_eq_pingRequest ▸ rfl
  have hu := quiet_afterXchg (p := pingRequest) (tmo := 2000#16) hq
  refine ⟨rfl, fun hi hs => ?_, fun hs => ?_⟩
  · have ha : answerTo s pingRequest = sigPacket := by
      rw [answerTo_open (by simp [hi]), packetOf_eq_sigPacket_iff, hs]
      rfl
    exact exec_xchg_quiet hq hst hj hu (ha ▸ walk_probe_true.trans (.line rfl nofun (.done _)))
  · have ha : answerTo s pingRequest ≠ sigPacket := by
      by_cases hc : s.st = .closed
      · rw [answerTo_closed hc]
        decide
      · rw [answerTo_open hc, Ne, packetOf_eq_sigPacket_iff]
        exact hs.resolve_left hc
    exact exec_xchg_quiet hq hst hj (u := (afterXchg s pingRequest 2000#16).note .probefail) hu
      ((walk_probe_false ha).trans (.line rfl nofun (.done _)))

/-- R190: a response that is not checksum-valid. -/
theorem walk_getpos_chkbad {a : Axis} {r : Packet} (h : checksumValid r ≠ true) :
    Walk (List.replicate 2 .go) (s.goto (.getpos a (.valid r))) ((s.note .chkbad).goto (.getpos a .ret)) := by
  have hv : (s.goto (.getpos a (.valid r))).blockLine = s.goto (.getpos a .chkbad) := if_neg h
  exact .line rfl nofun (hv ▸ .line rfl nofun (.done _))

theorem walk_getpos_valid {a : Axis} {r : Packet} (h : checksumValid r = true) :
    Walk [.go] (s.goto (.getpos a (.valid r))) (s.goto (.getpos a (.length r))) := by
  have hv : (s.goto (.getpos a (.valid r))).blockLine = s.goto (.getpos a (.length r)) := if_pos h
  exact .line rfl nofun (hv ▸ .done _)

/-- R190: a valid response whose payload is not four bytes. -/
theorem walk_getpos_badlen {a : Axis} {r : Packet} (h : r.payload.length ≠ 4) :
    Walk (List.replicate 2 .go) (s.goto (.getpos a (.length r))) ((s.note .badlen).goto (.getpos a .ret)) := by
  have hl : (s.goto (.getpos a (.length r))).blockLine = s.goto (.getpos a .badlen) := by
    simp only [State.blockLine, getposLine, goto_job]
    split
    · simp_all
    · rfl
  exact .line rfl nofun (hl ▸ .line rfl nofun (.done _))

/-- R190: a valid response of four bytes. -/
theorem walk_getpos_store {a : Axis} {r : Packet} {b0 b1 b2 b3 : Byte} (h : r.payload = [b0, b1, b2, b3]) :
    Walk (List.replicate 2 .go) (s.goto (.getpos a (.length r)))
      ((s.setLastpos a (int32Of s.cfg.intWireOrder ⟨b0, b1, b2, b3⟩)).goto (.getpos a .ret)) := by
  have hl : (s.goto (.getpos a (.length r))).blockLine = s.goto (.getpos a (.store ⟨b0, b1, b2, b3⟩)) := by
    simp only [State.blockLine, getposLine, goto_job, h]
    rfl
  exact .line rfl nofun (hl ▸ .line rfl nofun (.done _))

theorem walk_getpos_ret {a : Axis} {x : Word32} (h : s.lastposAt a = x) :
    Walk [.go] (s.goto (.getpos a .ret)) (s.complete (.int32 x)) :=
  h ▸ .line rfl nofun (.done _)

theorem int32Of_eq_ofNat (o : WireOrder) (w : Bytes4) :
    int32Of o w = BitVec.ofNat 32 (patternOf o w.b0 w.b1 w.b2 w.b3) := by
  rw [← toNat_int32Of, BitVec.ofNat_toNat, BitVec.setWidth_eq]

/-- Settles O44: the checksum test, the length test and the store, in this order. -/
theorem getposOnAQuietLine : Obligations.GetposOnAQuietLine := by
  intro s args hq hst
  have hj : firstJob s.cfg (.getpos args.axis) =
      some (.xchg (.getpos args.axis) (.test (readposRequest args.axis) 15000#16)) :=
    readposPacket_eq_readposRequest args.axis ▸ rfl
  have hu := quiet_afterXchg (p := readposRequest args.axis) (tmo := 15000#16) hq
  have hold : (afterXchg s (readposRequest args.axis) 15000#16).lastposAt args.axis = s.lastposAt args.axis := by
    simp [State.lastposAt]
  have hv : ∀ r, (wireBytes r).foldl (· ^^^ ·) 0x00#8 = 0x5A#8 ↔ checksumValid r = true := fun r => by
    rw [checksumValid_eq, foldl_xor_eq, BitVec.zero_xor, beq_iff_eq]
    rfl
  simp only [hv, Ne]
  refine ⟨rfl, fun hc => ?_, fun hc hl => ?_, fun b0 b1 b2 b3 hc hp => ?_⟩
  · exact exec_xchg_quiet hq hst hj (u := (afterXchg s (readposRequest args.axis) 15000#16).note .chkbad) hu
      ((walk_getpos_chkbad hc).trans (walk_getpos_ret hold))
  · exact exec_xchg_quiet hq hst hj (u := (afterXchg s (readposRequest args.axis) 15000#16).note .badlen) hu
      ((walk_getpos_valid hc).trans ((walk_getpos_badlen hl).trans (walk_getpos_ret hold)))
  · have hstore := walk_getpos_store (s := (afterXchg s (readposRequest args.axis) 15000#16).accept) (a := args.axis) hp
    simp only [accept_cfg, afterXchg_cfg, int32Of_eq_ofNat] at hstore
    have hu' := exec_xchg_quiet hq hst hj (u := (afterXchg s (readposRequest args.axis) 15000#16).setLastpos args.axis
      (BitVec.ofNat 32 (patternOf s.cfg.intWireOrder b0 b1 b2 b3))) hu
      ((walk_getpos_valid hc).trans (hstore.trans (walk_getpos_ret (setLastpos_lastposAt_self _ _ _))))
    simpa only [State.setLastpos, afterXchg_lastpos] using hu'

end Sys2Proof.Proofs

/-! Proofs for the family 42_transport.md, continued: the walks of `CONNECT`, and the statements about the commands that open
and close a port on a quiet line. -/

namespace Sys2Proof.Proofs

open Sys2Proof.Machine

variable {s t u v w : State} {acts acts' ins : List Input} {k : XchgCaller} {p : Nat} {rest : List Nat} {tmo : BitVec 16}

/-! ### The commands that write nothing -/

/-- R185 in `Idle`: the test alone. -/
theorem walk_connect_idle {auto : Bool} {port : Nat} (h : s.st = .idle) :
    Walk (List.replicate 2 .go) (s.goto (.connect [] (.test auto port))) (s.complete (.bool true)) := by
  have ht : (s.goto (.connect [] (.test auto port))).blockLine = s.goto (.connect [] (.ret true)) := if_pos h
  exact .line rfl nofun (ht ▸ .line rfl nofun (.done _))

theorem exec_connect_idle {auto : Bool} {port : Nat} (hq : Quiet s) (hst : s.st = .idle) :
    exec (.connect auto port) s = .next (endedWith s (.bool true)) := by
  rw [← on_accept_complete hq]
  exact (walk_connect_idle (s := s.accept) hst).exec_quiet hq rfl rfl

/-- Settles O46. -/
theorem connectWhenConnectedIsANoOp : Obligations.ConnectWhenConnectedIsANoOp :=
  fun _ _ hq hst => ⟨rfl, exec_connect_idle hq hst⟩

/-- Settles O53: the one line of `DISCONNECT`. -/
theorem disconnectClosesThePort : Obligations.DisconnectClosesThePort := by
  intro s args hb
  have he := exec_disconnect hb
  refine ⟨rfl, fun hst => ?_, fun hst => ?_⟩
  · rw [he, if_pos hst, accept_complete s hb]
    rfl
  · rw [he, if_neg hst]
    exact congrArg Host.Outcome.next (accept_complete s.closePort hb _)

/-! ### The lines of `CONNECT` in `Closed` (R182, R185) -/

theorem walk_connect_auto {port : Nat} (h : s.st = .closed) : Walk (List.replicate 2 .go)
    (s.goto (.connect [] (.test true port))) (s.goto (.connect (List.range s.cfg.nPorts) .scan)) := by
  have ht : (s.goto (.connect [] (.test true port))).blockLine = s.goto (.connect [] (.mode true port)) :=
    if_neg (by simp [h])
  exact .line rfl nofun (ht ▸ .line rfl nofun (.done _))

theorem walk_connect_port {port : Nat} (h : s.st = .closed) : Walk (List.replicate 2 .go)
    (s.goto (.connect [] (.test false port))) (s.goto (.connect [] (.ask port))) := by
  have ht : (s.goto (.connect [] (.test false port))).blockLine = s.goto (.connect [] (.mode false port)) :=
    if_neg (by simp [h])
  exact .line rfl nofun (ht ▸ .line rfl nofun (.done _))

theorem walk_scan_cons : Walk [.go] (s.goto (.connect (p :: rest) .scan)) (s.goto (.connect rest (.ask p))) :=
  .line rfl nofun (.done _)

/-- R185: no port is left. -/
theorem walk_scan_nil : Walk (List.replicate 2 .go) (s.goto (.connect [] .scan)) (s.complete (.bool false)) :=
  .line rfl nofun (.line rfl nofun (.done _))

theorem goto_askOpen (j j' : Job) : ((s.goto j).askOpen p).goto j' = (s.askOpen p).goto j' := by
  by_cases h : p < s.cfg.nPorts
  · rw [askOpen_below s p h, askOpen_below (s.goto j) p h]
    rfl
  · have h : s.cfg.nPorts ≤ p := Nat.le_of_not_lt h
    rw [askOpen_beyond s p h, askOpen_beyond (s.goto j) p h]
    rfl

/-- R182: the registers after an attempt on a port that does not open. -/
def refused (s : State) (p : Nat) : State := (s.askOpen p).note .openfail

/-- R182, R185: a port that does not open. -/
theorem walk_refused (h : s.openOk p = false) : Walk (List.replicate 3 .go) (s.goto (.connect rest (.ask p)))
    ((refused s p).goto (.connect rest .scan)) := by
  have ha : (s.goto (.connect rest (.ask p))).blockLine = (s.askOpen p).goto (.connect rest .openfail) :=
    (if_neg (Bool.eq_false_iff.1 h)).trans (goto_askOpen _ _)
  exact .line rfl nofun (ha ▸ .line rfl nofun (.line rfl nofun (.done _)))

/-- R182: a port that opens. -/
theorem walk_opens (h : s.openOk p = true) : Walk (List.replicate 2 .go) (s.goto (.connect rest (.ask p)))
    (((s.askOpen p).openPort p).goto (probeStart (.connect rest))) := by
  have ha : (s.goto (.connect rest (.ask p))).blockLine = (s.askOpen p).goto (.connect rest (.opening p)) :=
    (if_pos h).trans (goto_askOpen _ _)
  exact .line rfl nofun (ha ▸ .line rfl nofun (.done _))

/-- R185: the lines after a probe without an answer. -/
theorem walk_close : Walk (List.replicate 3 .go) (s.goto (.probe (.connect rest) (.ret false)))
    (s.closePort.goto (.connect rest .scan)) :=
  .line rfl nofun (.line rfl nofun (.line rfl nofun (.done _)))

/-- R182, R183: the registers after a port is opened and the ping written. -/
def probing (s : State) (p : Nat) : State :=
  { s with
    st := .probing, port := p, rxq := [], opens := s.opens.tail,
    txlog := s.txlog ++ sent p [0x00#8, 0x5D#8, 0x00#8, 0x07#8] }

theorem askOpen_of_openOk (h : s.openOk p = true) : s.askOpen p = { s with opens := s.opens.tail } :=
  askOpen_below s p ((openOk_iff s p).1 h).1

/-- R182, R183: from the attempt on a port that opens to the write of the ping. -/
theorem walk_ping (h : s.openOk p = true) : Walk (List.replicate 4 .go) (s.goto (.connect rest (.ask p)))
    ((probing s p).goto (.xchg (.probe (.connect rest)) (.latch 2000#16))) := by
  have hw := walk_write (s := (s.askOpen p).openPort p) (k := .probe (.connect rest)) (p := pingPacket) (tmo := tProbeMs) nofun
  rw [leaveOpening_opening _ (by rfl), askOpen_of_openOk h] at hw
  have ho := walk_opens (rest := rest) h
  rw [askOpen_of_openOk h] at ho
  exact ho.trans hw

/-- R185, R253: the registers after an attempt on a port that opens to a silent peer. -/
def pinged (s : State) (p : Nat) : State := ((drained (polled (probing s p) 2000#16)).note .probefail).closePort

theorem pinged_eq (s : State) (p : Nat) : pinged s p =
    { s with
      st := .closed, port := p, ph := .ready, tmo := 2000#16, el := 2000#17, rxq := [], opens := s.opens.tail,
      txlog := s.txlog ++ sent p [0x00#8, 0x5D#8, 0x00#8, 0x07#8], diag := s.diag ||| 0x0A#8 } := by
  have hel : lastCheck 2000#16 = 2000#17 := by decide
  rw [pinged, drained_polled]
  simp [probing, State.note, State.closePort, State.rxClear, DiagBit.mask, DiagBit.index, BitVec.or_assoc, hel]

/-- R185: a port that opens to a silent peer. -/
theorem walk_pinged (h : s.openOk p = true) :
    Walk (List.replicate 7 .go ++ (List.replicate 20 tickRound).flatten ++ List.replicate 9 .go)
      (s.goto (.connect rest (.ask p))) ((pinged s p).goto (.connect rest .scan)) := by
  have hne : packetOf [] ≠ sigPacket := by decide
  have hlatch := walk_latch_return (s := probing s p) (k := .probe (.connect rest)) (tmo := 2000#16)
  exact ((walk_ping h).trans (hlatch.trans ((walk_probe_false hne).trans walk_close))).of_eq rfl

/-! ### One port -/

/-- A command that fails on every port it tries. -/
theorem exec_connect_false {auto : Bool} {port : Nat} (hq : Quiet s) (hu : Quiet u)
    (h : Walk acts (s.accept.goto (.connect [] (.test auto port))) (u.accept.goto (.connect [] .scan))) :
    exec (.connect auto port) s = .next (endedWith u (.bool false)) := by
  rw [← on_accept_complete hu]
  exact (h.trans walk_scan_nil).exec_quiet hq rfl rfl

/-- Settles O48: the environment is asked for a port below `N_PORTS` alone. -/
theorem connectToAPortThatDoesNotOpen : Obligations.ConnectToAPortThatDoesNotOpen := by
  intro s port hq hst
  refine ⟨fun hp => ?_, fun more hp ho => ?_⟩
  · have hno : s.accept.openOk port = false := by simp [State.openOk, Nat.not_lt.2 hp]
    have hr : refused s.accept port = (s.note .openfail).accept := by
      rw [refused, askOpen_beyond s.accept port hp]
      rfl
    exact exec_connect_false hq (u := s.note .openfail) hq
      (hr ▸ (walk_connect_port (s := s.accept) hst).trans (walk_refused hno))
  · have hno : s.accept.openOk port = false := by simp [State.openOk, ho]
    have hr : refused s.accept port = ({ s with diag := s.diag ||| 0x10#8, opens := more } : State).accept := by
      rw [refused, askOpen_below s.accept port hp, accept_opens, ho]
      rfl
    exact exec_connect_false hq (u := { s with diag := s.diag ||| 0x10#8, opens := more }) hq
      (hr ▸ (walk_connect_port (s := s.accept) hst).trans (walk_refused hno))

/-- Settles O49: 20 ticks are waited and the port is closed again. -/
theorem connectToASilentPeer : Obligations.ConnectToASilentPeer := by
  intro s port more hq hst hp ho
  have hopen : s.accept.openOk port = true := (openOk_iff s.accept port).2 ⟨hp, more, ho⟩
  have hp' : pinged s.accept port = (pinged s port).accept := by
    rw [pinged_eq, pinged_eq]
    rfl
  have he := exec_connect_false hq (u := pinged s port) (by simpa [Quiet, pinged_eq] using hq)
    (hp' ▸ (walk_connect_port (s := s.accept) hst).trans (walk_pinged hopen))
  rw [he, pinged_eq, ho, hst]
  rfl

/-! ### The ports a scan opens -/

/-- The ports of a list that open, by the answers that stand ready (R182). -/
def opened (n : Nat) : List Nat → List Bool → List Nat
  | [], _ => []
  | p :: ps, answers =>
    (if p < n ∧ answers.headD false = true then [p] else []) ++
      opened n ps (if p < n then answers.tail else answers)

/-- The answers that are left after the ports of a list have been tried. -/
def answersAfter (n : Nat) (ports : List Nat) (answers : List Bool) : List Bool :=
  ports.foldl (fun answers p => if p < n then answers.tail else answers) answers

theorem opened_append (n : Nat) (ps qs : List Nat) (answers : List Bool) :
    opened n (ps ++ qs) answers = opened n ps answers ++ opened n qs (answersAfter n ps answers) := by
  induction ps generalizing answers with
  | nil => rfl
  | cons p ps ih => simp [opened, ih, answersAfter]

theorem answersAfter_append (n : Nat) (ps qs : List Nat) (answers : List Bool) :
    answersAfter n (ps ++ qs) answers = answersAfter n qs (answersAfter n ps answers) :=
  List.foldl_append

theorem answersAfter_range {n k : Nat} (hk : k ≤ n) (answers : List Bool) :
    answersAfter n (List.range k) answers = answers.drop k := by
  induction k with
  | zero => rfl
  | succ k ih =>
    rw [List.range_succ, answersAfter_append, ih (Nat.le_of_succ_le hk)]
    simp [answersAfter, Nat.lt_of_succ_le hk]

/-- D12: the ports below `N_PORTS` are asked in ascending order. -/
theorem opened_range {n k : Nat} (hk : k ≤ n) (answers : List Bool) :
    opened n (List.range k) answers = (List.range k).filter fun p => answers.getD p false := by
  induction k with
  | zero => rfl
  | succ k ih =>
    have hk' := Nat.lt_of_succ_le hk
    rw [List.range_succ, opened_append, ih hk'.le, answersAfter_range hk'.le, List.filter_append]
    simp [opened, hk', List.filter_cons]

/-! ### A scan past ports that do not answer -/

/-- What a scan past ports that do not answer leaves: the answers for them are used up and each that opened has been pinged. -/
structure Passed (s : State) (ports : List Nat) (t : State) : Prop where
  st : t.st = .closed
  rxq : t.rxq = if true ∈ s.opens.take ports.length then [] else s.rxq
  txlog : t.txlog = s.txlog ++ (opened s.cfg.nPorts ports s.opens).flatMap fun p => sent p [0x00#8, 0x5D#8, 0x00#8, 0x07#8]
  opens : t.opens = s.opens.drop ports.length
  lastpos : t.lastpos = s.lastpos
  cfg : t.cfg = s.cfg
  result : t.result = s.result
  done : t.done = s.done

theorem passed_refused {ps : List Nat} {os : List Bool} (hp : p < s.cfg.nPorts) (ho : s.opens = false :: os)
    (h : Passed (refused s p) ps t) : Passed s (p :: ps) t := by
  have hr : refused s p = { s with diag := s.diag ||| 0x10#8, opens := os } := by
    rw [refused, askOpen_below s p hp, ho]
    rfl
  rw [hr] at h
  exact { h with
    rxq := by simp [h.rxq, ho], txlog := by simp [h.txlog, ho, opened, hp], opens := by simp [h.opens, ho] }

theorem passed_pinged {ps : List Nat} {os : List Bool} (hp : p < s.cfg.nPorts) (ho : s.opens = true :: os)
    (h : Passed (pinged s p) ps t) : Passed s (p :: ps) t := by
  rw [pinged_eq] at h
  exact { h with
    rxq := by simp [h.rxq, ho], txlog := by simp [h.txlog, ho, opened, hp], opens := by simp [h.opens, ho] }

/-- R185: the scan goes past ports that do not open (`false`) and ports with a silent peer (`true`). -/
theorem walk_ports (ports : List Nat) (hp : ∀ p ∈ ports, p < s.cfg.nPorts) (hl : ports.length ≤ s.opens.length)
    (hst : s.st = .closed) : ∃ t, Passed s ports t ∧
      Walk (passedPorts (s.opens.take ports.length)) (s.goto (.connect (ports ++ rest) .scan))
        (t.goto (.connect rest .scan)) := by
  induction ports generalizing s with
  | nil => exact ⟨s, by constructor <;> simp [hst, opened], .done _⟩
  | cons p ps ih =>
    obtain ⟨hp, hps⟩ := List.forall_mem_cons.1 hp
    match ho : s.opens with
    | [] => simp [ho] at hl
    | o :: os =>
      have hl : ps.length ≤ os.length := by simpa [ho] using hl
      cases o with
      | true =>
        have hopen : s.openOk p = true := (openOk_iff s p).2 ⟨hp, os, ho⟩
        have hos : (pinged s p).opens = os := by simp [pinged_eq, ho]
        obtain ⟨t, ht, hw⟩ := ih (s := pinged s p) (by simpa [pinged_eq] using hps) (hos ▸ hl) (by simp [pinged_eq])
        exact ⟨t, passed_pinged hp ho ht, (walk_scan_cons.trans ((walk_pinged hopen).trans (hos ▸ hw))).of_eq rfl⟩
      | false =>
        have hclosed : s.openOk p = false := by simp [State.openOk, ho]
        have hos : (refused s p).opens = os := by simp [refused, askOpen_below s p hp, ho]
        obtain ⟨t, ht, hw⟩ := ih (s := refused s p) (by simpa [refused] using hps) (hos ▸ hl) (by simp [refused, hst])
        exact ⟨t, passed_refused hp ho ht, (walk_scan_cons.trans ((walk_refused hclosed).trans (hos ▸ hw))).of_eq rfl⟩

/-- Settles O52: all the ports are passed and none is left. -/
theorem scanTriesEveryPortInOrder : Obligations.ScanTriesEveryPortInOrder := by
  intro s port hq hst hn
  obtain ⟨t, ht, hw⟩ := walk_ports (s := s.accept) (rest := []) (List.range s.cfg.nPorts) (by simp) (by simpa using hn) hst
  rw [List.append_nil] at hw
  have hauto : Walk _ (s.accept.goto (.connect [] (.test true port))) _ := walk_connect_auto hst
  have hrep : s.opens.take s.cfg.nPorts = List.replicate s.cfg.nPorts false ↔ true ∉ s.opens.take s.cfg.nPorts := by
    simp only [List.eq_replicate_iff, List.length_take, Nat.min_eq_left hn, true_and]
    exact ⟨fun h hm => absurd (h true hm) (by decide), fun h b hb => Bool.eq_false_iff.2 fun e => h (e ▸ hb)⟩
  have hrxq := ht.rxq
  have htxlog := ht.txlog
  have hopens := ht.opens
  rw [List.length_range] at hrxq hopens
  rw [accept_cfg, opened_range (Nat.le_refl _)] at htxlog
  refine ⟨_, ((hauto.trans hw).trans walk_scan_nil).exec_quiet hq rfl rfl, rfl, ht.st, hrxq.trans ?_, ht.lastpos, hopens,
    htxlog⟩
  simp only [hrep, ite_not]
  rfl

end Sys2Proof.Proofs

/-! Proofs for the family 42_transport.md, continued: bytes that arrive in a run, and the statements about a peer that answers
at the lines named. -/

namespace Sys2Proof.Proofs

open Sys2Proof.Machine

variable {s t u v w : State} {acts acts' ins : List Input} {k : XchgCaller} {p : Nat} {rest : List Nat} {tmo : BitVec 16}

/-! ### Bytes that arrive -/

/-- R54: with a finite `RX_DEPTH` the bytes that the queue cannot hold are discarded. -/
theorem arriveAll_bounded (bs : List Byte) {d : Nat} (h : s.st ≠ .closed) (hd : s.cfg.rxDepth = some d)
    (hl : s.rxq.length ≤ d) : s.arriveAll bs =
      { s with
        rxq := (s.rxq ++ bs).take d
        diag := if d < (s.rxq ++ bs).length then s.diag ||| 0x40#8 else s.diag } := by
  induction bs generalizing s with
  | nil => simp [State.arriveAll, hl, Nat.not_lt.2 hl, List.take_of_length_le]
  | cons b bs ih =>
    obtain hlt | rfl := Nat.lt_or_eq_of_le hl
    · have ha : s.arrive b = { s with rxq := s.rxq ++ [b] } := arrive_below b h fun d' hd' => by simp_all
      rw [State.arriveAll, ha, ih (by exact h) (by exact hd) (by simpa using hlt)]
      simp
    · have ha : s.arrive b = { s with diag := s.diag ||| 0x40#8 } := arrive_at_depth b h hd
      rw [State.arriveAll, ha, ih (by exact h) (by exact hd) (by exact hl)]
      cases bs <;> simp [BitVec.or_assoc]

/-- R52: bytes for which the queue has room are appended. -/
theorem arriveAll_fits (bs : List Byte) (h : s.st ≠ .closed)
    (hd : ∀ d, s.cfg.rxDepth = some d → (s.rxq ++ bs).length ≤ d) : s.arriveAll bs = { s with rxq := s.rxq ++ bs } := by
  cases hc : s.cfg.rxDepth with
  | none => exact arriveAll_unbounded s bs h hc
  | some d =>
    have hl := hd d hc
    have hl' : s.rxq.length ≤ d := (Nat.le_add_right _ _).trans (List.length_append ▸ hl)
    rw [arriveAll_bounded bs h hc hl', List.take_of_length_le hl, if_neg (Nat.not_lt.2 hl)]

/-- The state with these bytes in the receive queue. -/
def holding (s : State) (bs : List Byte) : State := { s with rxq := bs }

/-- Bytes that arrive, on an empty queue, before the line that is next. -/
theorem reaches_bytes {bs : List Byte} (j : Job) (h : s.st ≠ .closed) (hq : s.rxq = [])
    (hd : ∀ d, s.cfg.rxDepth = some d → bs.length ≤ d) :
    Reaches (on (s.goto j) (bs.map .rx ++ ins)) (on ((holding s bs).goto j) ins) := by
  have ha : (s.goto j).arriveAll bs = (holding s bs).goto j := by
    rw [arriveAll_fits (s := s.goto j) bs h (by simpa [hq] using hd), goto_rxq, hq]
    rfl
  exact ha ▸ reaches_rx (u := s.goto j) (ins := ins) bs rfl

/-- R183: from the latch of an exchange on an empty queue to its first wait. -/
theorem walk_latch_wait (hq : s.rxq = []) (ht : 0 < tmo.toNat) :
    Walk (List.replicate 3 .go) (s.goto (.xchg k (.latch tmo))) ((s.latchTimer tmo).goto (.xchg k .wait)) := by
  have hwait : (s.latchTimer tmo).timedOut ≠ true := fun h => by
    rw [timedOut_iff] at h
    exact absurd h (Nat.not_le.2 ht)
  exact walk_latch.trans (walk_check_wait (s := s.latchTimer tmo) (by simp [hq]) hwait)

/-- R183: from a wait whose next check finds the bytes `r` to the line after the drain. -/
theorem walk_wait_answered {r : List Byte} (hq : s.rxq = []) (hr : 4 ≤ r.length) :
    Walk (.tick :: List.replicate 4 .go) ((holding s r).goto (.xchg k .wait)) (s.countTick.goto (.xchg k (.ready r))) := by
  have hs : (holding s r).countTick.rxClear = s.countTick := congrArg (holding s.countTick) hq.symm
  exact hs ▸ walk_tick.trans ((walk_check_answered (s := (holding s r).countTick) hr).trans walk_drain)

/-- Settles O45: the bytes before the check are drained together and those after the drain stay. -/
theorem responseIsCutAtTheDrain : Obligations.ResponseIsCutAtTheDrain := by
  intro s p tmo r₁ r₂ hj hst hq ht h₁ hd hi
  simp only [List.append_assoc] at hi
  have hb := (busy_eq_false_iff s).2 hj
  have hl : NoLook s := by simp [NoLook, hi]
  have hopen : s.st ≠ .closed := by simp [hst]
  have ho : (s.accept.txWrite (bytesOf p)).leaveOpening = s.accept.txWrite (bytesOf p) :=
    leaveOpening_other _ fun h : s.st = .opening => by simp [hst] at h
  let a := (s.accept.txWrite (bytesOf p)).latchTimer tmo
  have hstart : Walk (List.replicate 5 .go) (s.accept.goto (.xchg .exchange (.test p tmo))) (a.goto (.xchg .exchange .wait)) := by
    have hwrite := walk_write (s := s.accept) (k := .exchange) (p := p) (tmo := tmo) hopen
    rw [ho] at hwrite
    exact hwrite.trans (walk_latch_wait hq ht)
  have hend := walk_ready (s := holding a.countTick r₂) (k := .exchange) r₁
  have hrun := hstart.reaches.trans ((reaches_bytes (s := a) _ hopen hq fun d h => (hd d h).1).trans
    ((walk_wait_answered (s := a) hq h₁).reaches.trans ((reaches_bytes (s := a.countTick) _ hopen hq fun d h => (hd d h).2).trans
      (hend.reaches_await rfl rfl))))
  have hret : returned (holding a.countTick r₂) r₁ = (holding a.countTick r₂).setReady := if_neg (Nat.not_lt.2 h₁)
  rw [exec_of_reaches hb hl rfl hi hrun rfl, hret]
  have hlog : s.txlog ++ sent s.port (wireBytes p) = a.txlog := by simp [a, sent, wireBytes, bytesOf]
  rw [hlog]
  exact congrArg Host.Outcome.next (accept_complete { s with
    txlog := a.txlog, tmo := tmo, el := 100#17, ph := .ready, rxq := r₂, inputs := [] } hb _)

end Sys2Proof.Proofs

/-! Proofs for the family 42_transport.md, continued: what a command keeps on any line. First the bytes a command has still to
write where they are decided, then the statements about `CONNECT` in `Idle` and about how `CONNECT` ends. -/

namespace Sys2Proof.Proofs

open Sys2Proof.Machine

variable {o : Owner} {s t u : State} {k : XchgCaller} {rest : List Nat} {written : List (Nat × Byte)}

/-! ### The bytes a command has still to write -/

/-- R183: what an exchange has still to write. -/
def xchgEntries (s : State) : XchgLine → List (Nat × Byte)
  | .test p _ => if s.st = .closed then [] else sent s.port (wireBytes p)
  | .write p _ => sent s.port (wireBytes p)
  | _ => []

/-- R185: what the `clearFaults` exchange of `CONNECT` has to write. -/
def clearEntries (s : State) : List (Nat × Byte) := xchgEntries s (.test (clearfaultsPacket s.cfg) tDefaultMs)

theorem clearEntries_open (h : s.st ≠ .closed) : clearEntries s = sent s.port (wireBytes (clearRequest s.cfg)) :=
  clearfaultsPacket_eq_clearRequest s.cfg ▸ if_neg h

/-- The exchange of a probe that has drained the ping's answer. -/
def drainedAnswer : XchgLine → Bool
  | .ready r => decide (packetOf r = sigPacket)
  | .short r => decide (packetOf r = sigPacket)
  | .ret r => decide (packetOf r = sigPacket)
  | _ => false

/-- A probe that will find the ping's answer, or has found it. -/
def foundAnswer : ProbeLine → Bool
  | .compare r => decide (r = sigPacket)
  | .note ok => ok
  | .ret ok => ok

/-- The entries that the command in flight has still to add to `TXLOG`, where they are decided: those of an exchange, and those
of a `CONNECT` that has heard its peer or that found the session `Idle`. -/
def toWrite (s : State) : Option (List (Nat × Byte)) :=
  match s.job with
  | none => some []
  | some (.xchg (.probe (.connect _)) l) => if drainedAnswer l then some (clearEntries s) else none
  | some (.xchg _ l) => some (xchgEntries s l)
  | some (.probe (.connect _) l) => if foundAnswer l then some (clearEntries s) else none
  | some (.probe .isconnected _) => some []
  | some (.getpos _ _) => some []
  | some (.connect _ (.test _ _)) => if s.st = .idle then some [] else none
  | some (.connect _ .clear) => some (clearEntries s)
  | some (.connect _ .idle) => some []
  | some (.connect _ (.one ok)) => if ok then some [] else none
  | some (.connect _ (.ret ok)) => if ok then some [] else none
  | some (.connect _ _) => none

/-- The command in flight is decided: what it has still to write makes up `written` with what it has written, and it opens no
port. Where it is `CONNECT` it ends with true. -/
structure Decided (o : Owner) (written : List (Nat × Byte)) (port : Nat) (opens : List Bool) (s : State) : Prop where
  entries : ∃ more, toWrite s = some more ∧ s.txlog ++ more = written
  port_eq : s.port = port
  opens_eq : s.opens = opens
  result : o = .connect → s.job = none → s.result = some ⟨.ok, some (.bool true)⟩

/-- Whether an exchange's caller goes on to open ports. -/
def isScanProbe : XchgCaller → Bool
  | .probe (.connect _) => true
  | _ => false

theorem goto_self {j : Job} (h : s.job = some j) : s.goto j = s := congrArg (fun j => { s with job := j }) h.symm

theorem toWrite_xchg {l : XchgLine} (hk : isScanProbe k = false) :
    toWrite (s.goto (.xchg k l)) = some (xchgEntries s l) := by
  rcases k with _ | _ | (_ | _) | _
  case probe.connect => cases hk
  all_goals cases l <;> rfl

theorem toWrite_returnPacket {p : Packet} (hk : isScanProbe k = false) : toWrite (s.returnPacket k p) = some [] := by
  rcases k with _ | _ | (_ | _) | _
  case probe.connect => cases hk
  all_goals rfl

theorem returnPacket_txlog {p : Packet} : (s.returnPacket k p).txlog = s.txlog := by cases k <;> rfl

/-- R183: a line of an exchange writes what it takes off the bytes still to be written; the last line returns a packet. -/
theorem xchgLine_entries {l : XchgLine} (hj : s.job = some (.xchg k l)) :
    (∃ u l', xchgLine k l s = u.goto (.xchg k l') ∧ u.txlog ++ xchgEntries u l' = s.txlog ++ xchgEntries s l) ∨
    (∃ p, xchgLine k l s = s.returnPacket k p ∧ xchgEntries s l = []) := by
  cases l with
  | test p tmo =>
    dsimp only [xchgLine]
    split_ifs with hc
    · exact .inl ⟨_, _, rfl, by simp [xchgEntries, hc]⟩
    · exact .inl ⟨_, _, rfl, by simp [xchgEntries, hc]⟩
  | write p tmo => exact .inl ⟨_, _, rfl, by simp [xchgEntries, sent, wireBytes, bytesOf]⟩
  | check n => dsimp only [xchgLine]; split_ifs <;> exact .inl ⟨_, _, rfl, rfl⟩
  | short r => dsimp only [xchgLine]; split_ifs <;> exact .inl ⟨_, _, rfl, rfl⟩
  | passReturn p => exact .inr ⟨_, rfl, rfl⟩
  | ret r => exact .inr ⟨_, rfl, rfl⟩
  | wait => exact .inl ⟨s, .wait, (goto_self hj).symm, rfl⟩
  | _ => exact .inl ⟨_, _, rfl, rfl⟩

theorem toWrite_xchgLine {l : XchgLine} (hk : isScanProbe k = false) (hj : s.job = some (.xchg k l)) :
    ∃ more, toWrite (xchgLine k l s) = some more ∧ (xchgLine k l s).txlog ++ more = s.txlog ++ xchgEntries s l := by
  obtain ⟨u, l', hu, htx⟩ | ⟨p, hu, hnone⟩ := xchgLine_entries hj
  · exact ⟨_, hu ▸ toWrite_xchg hk, hu ▸ htx⟩
  · exact ⟨_, hu ▸ toWrite_returnPacket hk, by rw [hu, returnPacket_txlog, hnone]⟩

/-- Once a probe of `CONNECT` has drained the answer, its exchange goes on to the probe's lines with it. -/
theorem toWrite_answered {l : XchgLine} (hl : drainedAnswer l = true) :
    toWrite (xchgLine (.probe (.connect rest)) l s) = some (clearEntries s) ∧
      (xchgLine (.probe (.connect rest)) l s).txlog = s.txlog := by
  have hg : ∀ (u : State) (l : XchgLine), drainedAnswer l = true →
      toWrite (u.goto (.xchg (.probe (.connect rest)) l)) = some (clearEntries u) := fun u l hl => if_pos hl
  cases l
  case ready r => exact ⟨hg s.setReady (.short r) hl, rfl⟩
  case short r => dsimp only [xchgLine]; split_ifs <;> exact ⟨hg _ (.ret r) hl, rfl⟩
  case ret r => exact ⟨if_pos hl, rfl⟩
  all_goals cases hl

theorem toWrite_found {l : ProbeLine} (hl : foundAnswer l = true) :
    toWrite (probeLine (.connect rest) l s) = some (clearEntries s) ∧ (probeLine (.connect rest) l s).txlog = s.txlog := by
  cases l with
  | compare r => exact ⟨if_pos hl, rfl⟩
  | note ok => cases hl; exact ⟨rfl, rfl⟩
  | ret ok => cases hl; exact ⟨rfl, rfl⟩

theorem toWrite_isconnected (l : ProbeLine) :
    toWrite (probeLine .isconnected l s) = some [] ∧ (probeLine .isconnected l s).txlog = s.txlog := by
  cases l with
  | compare r => exact ⟨rfl, rfl⟩
  | note ok => cases ok <;> exact ⟨rfl, rfl⟩
  | ret ok => exact ⟨rfl, rfl⟩

theorem toWrite_getposLine (a : Axis) (l : GetposLine) :
    toWrite (getposLine a l s) = some [] ∧ (getposLine a l s).txlog = s.txlog := by
  cases l
  case valid => dsimp only [getposLine]; split_ifs <;> exact ⟨rfl, rfl⟩
  case length => dsimp only [getposLine]; split <;> exact ⟨rfl, rfl⟩
  all_goals exact ⟨rfl, rfl⟩

theorem toWrite_connectLine {l : ConnectLine} {more : List (Nat × Byte)} (hj : s.job = some (.connect rest l))
    (h : toWrite s = some more) : toWrite (connectLine rest l s) = some more ∧
      (connectLine rest l s).txlog = s.txlog ∧ (connectLine rest l s).port = s.port ∧
      (connectLine rest l s).opens = s.opens := by
  unfold toWrite at h
  rw [hj] at h
  cases l with
  | test auto port =>
    obtain ⟨hi, rfl⟩ : s.st = .idle ∧ [] = more := by simpa using h
    have ht : connectLine rest (.test auto port) s = s.goto (.connect [] (.ret true)) := if_pos hi
    rw [ht]
    exact ⟨rfl, rfl, rfl, rfl⟩
  | clear => exact ⟨h, rfl, rfl, rfl⟩
  | idle => exact ⟨h, rfl, rfl, rfl⟩
  | one ok =>
    obtain ⟨rfl, rfl⟩ : ok = true ∧ [] = more := by simpa using h
    exact ⟨rfl, rfl, rfl, rfl⟩
  | ret ok =>
    obtain ⟨rfl, rfl⟩ : ok = true ∧ [] = more := by simpa using h
    exact ⟨rfl, rfl, rfl, rfl⟩
  | _ => cases h

theorem xchgLine_port_opens {l : XchgLine} : (xchgLine k l s).port = s.port ∧ (xchgLine k l s).opens = s.opens := by
  cases l
  case test | check | short => dsimp only [xchgLine]; split_ifs <;> exact ⟨rfl, rfl⟩
  case passReturn p => cases k <;> exact ⟨rfl, rfl⟩
  case ret r => cases k <;> exact ⟨rfl, rfl⟩
  case write p tmo => simp [xchgLine]
  all_goals exact ⟨rfl, rfl⟩

theorem probeLine_port_opens {c : ProbeCaller} {l : ProbeLine} :
    (probeLine c l s).port = s.port ∧ (probeLine c l s).opens = s.opens := by
  cases l with
  | compare r => exact ⟨rfl, rfl⟩
  | note ok => cases ok <;> exact ⟨rfl, rfl⟩
  | ret ok =>
    cases c with
    | isconnected => exact ⟨rfl, rfl⟩
    | connect rest => cases ok <;> exact ⟨rfl, rfl⟩

/-- A line writes what it takes off the entries still to be written, and while they are decided it opens no port. -/
theorem toWrite_blockLine {more : List (Nat × Byte)} (h : toWrite s = some more) :
    (∃ more', toWrite s.blockLine = some more' ∧ s.blockLine.txlog ++ more' = s.txlog ++ more) ∧
      s.blockLine.port = s.port ∧ s.blockLine.opens = s.opens := by
  cases hj : s.job with
  | none =>
    rw [blockLine_none s hj]
    exact ⟨⟨more, h, rfl⟩, rfl, rfl⟩
  | some j =>
    have hs : toWrite (s.goto j) = some more := (goto_self hj).symm ▸ h
    cases j with
    | xchg k l =>
      rw [blockLine_xchg s k l hj]
      refine ⟨?_, xchgLine_port_opens⟩
      cases hk : isScanProbe k with
      | false =>
        obtain rfl := Option.some.inj (hs.symm.trans (toWrite_xchg hk))
        exact toWrite_xchgLine hk hj
      | true =>
        rcases k with _ | _ | (_ | rest) | _ <;> cases hk
        obtain ⟨hl, ⟨⟩⟩ := Option.ite_none_right_eq_some.1 hs
        obtain ⟨hw, htx⟩ := toWrite_answered (s := s) (rest := rest) hl
        exact ⟨_, hw, htx ▸ rfl⟩
    | probe c l =>
      rw [blockLine_probe s c l hj]
      refine ⟨?_, probeLine_port_opens⟩
      cases c with
      | isconnected =>
        obtain rfl := Option.some.inj hs
        obtain ⟨hw, htx⟩ := toWrite_isconnected (s := s) l
        exact ⟨_, hw, htx ▸ rfl⟩
      | connect rest =>
        obtain ⟨hl, ⟨⟩⟩ := Option.ite_none_right_eq_some.1 hs
        obtain ⟨hw, htx⟩ := toWrite_found (s := s) (rest := rest) hl
        exact ⟨_, hw, htx ▸ rfl⟩
    | getpos a l =>
      obtain rfl := Option.some.inj hs
      obtain ⟨hw, htx⟩ := toWrite_getposLine (s := s) a l
      rw [blockLine_getpos s a l hj]
      exact ⟨⟨_, hw, htx ▸ rfl⟩, (effect_getposLine a l).port nofun, (effect_getposLine a l).opens nofun⟩
    | connect rest l =>
      rw [blockLine_connect s rest l hj]
      obtain ⟨hw, htx, hp⟩ := toWrite_connectLine hj h
      exact ⟨⟨more, hw, htx ▸ rfl⟩, hp⟩

/-! ### How `CONNECT` ends -/

theorem returnPacket_busy {p : Packet} (hk : k ≠ .exchange) : (s.returnPacket k p).busy = true := by
  cases k
  case exchange => exact absurd rfl hk
  all_goals rfl

theorem xchgLine_busy {l : XchgLine} (hk : k ≠ .exchange) (hb : s.busy = true) : (xchgLine k l s).busy = true := by
  cases l
  case test | check | short => dsimp only [xchgLine]; split_ifs <;> rfl
  case passReturn p => exact returnPacket_busy hk
  case ret r => exact returnPacket_busy hk
  case wait => exact hb
  all_goals rfl

theorem probeLine_busy {l : ProbeLine} : (probeLine (.connect rest) l s).busy = true := by
  cases l with
  | compare r => rfl
  | note ok => cases ok <;> rfl
  | ret ok => cases ok <;> rfl

theorem connectLine_busy {l : ConnectLine} (hl : ∀ ok, l ≠ .ret ok) : (connectLine rest l s).busy = true := by
  cases l
  case ret ok => exact absurd rfl (hl ok)
  case test | ask => dsimp only [connectLine]; split_ifs <;> rfl
  case mode auto port => cases auto <;> rfl
  case scan => cases rest <;> rfl
  case one ok => cases ok <;> rfl
  all_goals rfl

/-- R185: the only line at which `CONNECT` ends. -/
theorem connect_ends_at_ret (ho : OwnedBy .connect s) (hb : s.busy = true) (he : s.blockLine.busy = false) :
    ∃ rest ok, s.job = some (.connect rest (.ret ok)) := by
  obtain ⟨j, hj⟩ := Option.isSome_iff_exists.1 hb
  have hown := ho j hj
  cases j with
  | xchg k l =>
    have hk : k ≠ .exchange := fun hk => by cases hk; cases hown
    rw [blockLine_xchg s k l hj, xchgLine_busy hk hb] at he
    cases he
  | probe c l =>
    cases c with
    | isconnected => cases hown
    | connect rest =>
      rw [blockLine_probe s _ l hj, probeLine_busy] at he
      cases he
  | getpos a l => cases hown
  | connect rest l =>
    by_contra hno
    rw [blockLine_connect s rest l hj, connectLine_busy fun ok hl => hno ⟨rest, ok, hl ▸ hj⟩] at he
    cases he

theorem xchgEntries_arrive (b : Byte) (l : XchgLine) : xchgEntries (s.arrive b) l = xchgEntries s l := by
  cases l <;> simp [xchgEntries]

theorem toWrite_arrive (b : Byte) : toWrite (s.arrive b) = toWrite s := by
  simp [toWrite, clearEntries, xchgEntries_arrive]

/-- What is decided stays decided to the end of the command. -/
theorem keptBy_decided {port : Nat} {opens : List Bool} : KeptBy o (Decided o written port opens) where
  inputs s ins h := { h with }
  arrive s b h := {
    entries := by rw [toWrite_arrive, arrive_txlog]; exact h.entries
    port_eq := (arrive_port s b).trans h.port_eq
    opens_eq := (arrive_opens s b).trans h.opens_eq
    result := fun ho hj => (arrive_result s b).trans (h.result ho ((arrive_job s b).symm.trans hj)) }
  tick s k hj h := {
    entries := by
      obtain ⟨more, hw, htx⟩ := h.entries
      have hs : toWrite (s.goto (.xchg k .wait)) = some more := (goto_self hj).symm ▸ hw
      have hc : toWrite (s.goto (.xchg k .count)) = toWrite (s.goto (.xchg k .wait)) := by
        rcases k with _ | _ | (_ | _) | _ <;> rfl
      exact ⟨more, hc.trans hs, htx⟩
    port_eq := h.port_eq
    opens_eq := h.opens_eq
    result := nofun }
  line s hown h := by
    obtain ⟨more, hw, htx⟩ := h.entries
    obtain ⟨⟨more', hw', htx'⟩, hp, ho⟩ := toWrite_blockLine hw
    refine ⟨⟨more', hw', htx'.trans htx⟩, hp.trans h.port_eq, ho.trans h.opens_eq, fun hc hj => ?_⟩
    cases hb : s.busy with
    | false =>
      have hn := (busy_eq_false_iff s).1 hb
      rw [blockLine_none s hn]
      exact h.result hc hn
    | true =>
      obtain ⟨rest, ok, hret⟩ := connect_ends_at_ret (hc ▸ hown) hb ((busy_eq_false_iff _).2 hj)
      have hs : toWrite (s.goto (.connect rest (.ret ok))) = some more := (goto_self hret).symm ▸ hw
      obtain ⟨rfl, -⟩ := Option.ite_none_right_eq_some.1 hs
      rw [blockLine_connect s rest _ hret]
      rfl

/-- What holds of `CONNECT` along its run from `s`, whatever the line does: at its end the value is true exactly in `Idle`. -/
structure ConnectRun (s u : State) : Prop where
  coherent : Coherent u
  owned : OwnedBy .connect u
  inputs : u.inputs <:+ s.inputs
  result : u.job = none → (.reset ∈ s.inputs ∧ u.result = none) ∨
    u.result = some ⟨.ok, some (.bool (decide (u.st = .idle)))⟩

theorem keptInRun_connectRun (s : State) : KeptInRun (ConnectRun s) where
  inputs _ _ _ hi hu hv :=
    { coherent := keptInRun_coherent.inputs _ _ _ hi hu.coherent hv.coherent, owned := hv.owned
      inputs := hi.trans hu.inputs, result := hv.result }
  arrive u b hu :=
    { coherent := coherent_arrive hu.coherent b, owned := (effect_arrive b).owned hu.owned
      inputs := (arrive_inputs u b).symm ▸ hu.inputs, result := by simpa using hu.result }
  tick u hu :=
    { coherent := coherent_tickEvent hu.coherent, owned := (effect_tickEvent hu.owned).owned hu.owned
      inputs := (tickEvent_inputs u).symm ▸ hu.inputs
      result := by
        obtain h | ⟨k, -, h⟩ := tickEvent_cases u <;> rw [h]
        · exact hu.result
        · exact nofun }
  line u hu :=
    { coherent := coherent_blockLine hu.coherent, owned := (effect_blockLine hu.owned).owned hu.owned
      inputs := blockLine_inputs.symm ▸ hu.inputs
      result := fun hj => by
        cases hb : u.busy with
        | false =>
          have hn := (busy_eq_false_iff u).1 hb
          rw [blockLine_none u hn]
          exact hu.result hn
        | true =>
          obtain ⟨rest, ok, hret⟩ := connect_ends_at_ret hu.owned hb ((busy_eq_false_iff _).2 hj)
          have hst : u.st ∈ connectStates (.ret ok) := (readyFor_of_coherent hu.coherent hret).st_ok
          have hok : decide (u.st = .idle) = ok := by cases ok <;> simp_all [connectStates]
          rw [blockLine_connect u rest _ hret]
          have hv : (u.complete (.bool ok)).result = some ⟨.ok, some (.bool (decide (u.st = .idle)))⟩ := by rw [hok]; rfl
          exact .inr hv }
  reset u ins hi hu :=
    { coherent := coherent_resetWith hu.coherent.cfg_wf _ _, owned := nofun
      inputs := (hi ▸ List.suffix_cons _ _ : ins <:+ u.inputs).trans hu.inputs
      result := fun _ => .inl ⟨hu.inputs.subset (hi ▸ List.mem_cons_self), rfl⟩ }

theorem coherent_started {auto : Bool} {port : Nat} (hc : Coherent s) (hb : s.busy = false) :
    Coherent (started s (.connect [] (.test auto port))) := by
  have ha := atRest_of_coherent hc ((busy_eq_false_iff s).1 hb)
  exact coherent_goto (registersOk_of_coherent hc).accept
    (readyFor_firstJob (i := .connect auto port) { ha with } ⟨rfl, rfl⟩ rfl rfl)

theorem connectRun_exec {auto : Bool} {port : Nat} (hc : Coherent s) (hb : s.busy = false)
    (he : exec (.connect auto port) s = .next t) : ConnectRun s t := by
  have hj : firstJob s.cfg (.connect auto port) = some (.connect [] (.test auto port)) := rfl
  obtain rfl := Host.Outcome.next.inj ((exec_firstJob hj hb).symm.trans he)
  exact (keptInRun_connectRun s).resume
    { coherent := coherent_started hc hb, owned := fun _ hj => Option.some.inj hj ▸ rfl
      inputs := List.suffix_rfl, result := nofun }

/-- R193: `CONNECT` in `Idle`, from `s` on: nothing is opened, written or read. -/
structure StaysIdle (s u : State) : Prop where
  st : u.st = .idle
  port : u.port = s.port
  opens : u.opens = s.opens
  txlog : u.txlog = s.txlog
  rxq : ∃ bs, u.rxq = s.rxq ++ bs
  job : (∃ auto port, u.job = some (.connect [] (.test auto port))) ∨ u.job = some (.connect [] (.ret true)) ∨
    (u.job = none ∧ u.result = some ⟨.ok, some (.bool true)⟩)

theorem keptBy_staysIdle (s : State) : KeptBy o (StaysIdle s) where
  inputs _ _ h := { h with }
  arrive u b h :=
    { st := by simp [h.st], port := by simp [h.port], opens := by simp [h.opens], txlog := by simp [h.txlog]
      rxq := by
        obtain ⟨bs, hbs⟩ := h.rxq
        obtain ⟨cs, hcs⟩ := arriveAll_rxq (s := u) [b]
        exact ⟨bs ++ cs, hcs.trans (hbs ▸ List.append_assoc ..)⟩
      job := by simpa using h.job }
  tick u k hj h := by
    obtain ⟨_, _, hj'⟩ | hj' | ⟨hj', -⟩ := h.job <;> simp [hj] at hj'
  line u _ h := by
    obtain ⟨auto, port, hj⟩ | hj | ⟨hj, hr⟩ := h.job
    · have ht : u.blockLine = u.goto (.connect [] (.ret true)) :=
        (blockLine_connect u _ _ hj).trans (if_pos h.st)
      rw [ht]
      exact { h with job := .inr (.inl rfl) }
    · rw [blockLine_connect u _ _ hj]
      exact { h with job := .inr (.inr ⟨rfl, rfl⟩) }
    · rwa [blockLine_none u hj]

/-- Settles O47: a `CONNECT` that has returned true has left the session `Idle`, and the next one stays there. -/
theorem connectTwiceIsIdempotent : Obligations.ConnectTwiceIsIdempotent := by
  intro s t auto auto' port port' hc hb he hbt hr
  have hjt := (busy_eq_false_iff t).1 hbt
  have hst : t.st = .idle := by
    obtain ⟨-, hn⟩ | hv := (connectRun_exec hc hb he).result hjt
    · simp [hr] at hn
    · simpa [hr] using hv
  refine ⟨fun hi => exec_connect_idle ⟨hjt, hi⟩ hst, fun hn hl => ?_⟩
  obtain ⟨u, hu⟩ := exec_answers (.connect auto' port') hbt
  have hstart : StaysIdle t (started t (.connect [] (.test auto' port'))) :=
    { st := hst, port := rfl, opens := rfl, txlog := rfl, rxq := ⟨[], (List.append_nil _).symm⟩, job := .inl ⟨_, _, rfl⟩ }
  obtain ⟨hju, hend⟩ := (keptBy_staysIdle t).exec hbt hn hl rfl hstart hu
  obtain ⟨bs, hbs⟩ := hend.rxq
  obtain ⟨_, _, hj⟩ | hj | ⟨-, hres⟩ := hend.job
  · simp [hju] at hj
  · simp [hju] at hj
  · exact ⟨u, bs, hu, hres, (busy_eq_false_iff u).2 hju, hend.st.trans hst.symm, hend.port, hend.opens, hend.txlog, hbs⟩

end Sys2Proof.Proofs

/-! Proofs for the family 42_transport.md, continued: `CONNECT` to a peer that answers the ping, whatever its line does after
the drain of the answer. -/

namespace Sys2Proof.Proofs

open Sys2Proof.Machine

variable {s t u : State} {acts ins : List Input} {p : Nat} {rest : List Nat}

/-! ### From the attempt on a port to the peer's answer -/

/-- R183: the registers while the probe of a port waits for its answer. -/
def waiting (s : State) (p : Nat) : State := (probing s p).latchTimer 2000#16

/-- R183: the registers at the drain of an answer that the second check has found. -/
def heard (s : State) (p : Nat) : State := (waiting s p).countTick

/-- R185: the registers at the write of the `clearFaults` request. -/
def clearing (s : State) (p : Nat) : State := (heard s p).setReady.txWrite (wireBytes (clearRequest s.cfg))

theorem length_le_depth {cfg : Config} {bs : List Byte} {d : Nat} (hw : cfg.wf = true) (hd : cfg.rxDepth = some d)
    (hl : bs.length ≤ 514) : bs.length ≤ d := by
  simp [Config.wf, hd] at hw
  omega

/-- R183, R184: the answer arrives while the probe waits for the first time. -/
theorem reaches_signature (hw : s.cfg.wf = true) (h : s.openOk p = true) :
    Reaches (on (s.goto (.connect rest (.ask p))) (List.replicate 7 .go ++ (pingSig.map .rx ++ ins)))
      (on ((holding (waiting s p) pingSig).goto (.xchg (.probe (.connect rest)) .wait)) ins) := by
  have hwait : Walk (List.replicate 7 .go) (s.goto (.connect rest (.ask p)))
      ((waiting s p).goto (.xchg (.probe (.connect rest)) .wait)) :=
    (walk_ping h).trans (walk_latch_wait (s := probing s p) rfl (by decide))
  exact hwait.reaches.trans
    (reaches_bytes (s := waiting s p) _ nofun rfl fun d hd => length_le_depth hw hd (by decide))

theorem walk_signature : Walk (.tick :: List.replicate 4 .go)
    ((holding (waiting s p) pingSig).goto (.xchg (.probe (.connect rest)) .wait))
    ((heard s p).goto (.xchg (.probe (.connect rest)) (.ready pingSig))) :=
  walk_wait_answered (s := waiting s p) rfl (by decide)

/-- R185: from the drain of the answer to the write of the `clearFaults` request. -/
theorem walk_clear : Walk (List.replicate 9 .go) ((heard s p).goto (.xchg (.probe (.connect rest)) (.ready pingSig)))
    ((clearing s p).goto (.xchg .clear (.latch 15000#16))) := by
  have hret : returned (heard s p) pingSig = (heard s p).setReady := if_neg (by decide)
  have hready := walk_ready (s := heard s p) (k := .probe (.connect rest)) pingSig
  rw [hret] at hready
  have hwrite := walk_write (s := (heard s p).setReady) (k := .clear) (p := clearfaultsPacket s.cfg) (tmo := tDefaultMs) nofun
  have hopen : ((heard s p).setReady.txWrite (bytesOf (clearfaultsPacket s.cfg))).st ≠ .opening := nofun
  rw [leaveOpening_other _ hopen, clearfaultsPacket_eq_clearRequest] at hwrite
  have hcall : Walk (List.replicate 2 .go) ((heard s p).setReady.goto (.probe (.connect rest) (.ret true)))
      ((heard s p).setReady.goto (.xchg .clear (.test (clearRequest s.cfg) tDefaultMs))) :=
    clearfaultsPacket_eq_clearRequest s.cfg ▸ .line rfl nofun (.line rfl nofun (.done _))
  exact hready.trans (walk_probe_true.trans (hcall.trans hwrite))

/-- R185: the last lines of a `CONNECT` that reaches `Idle`. -/
theorem walk_idle : Walk (List.replicate 3 .go) (s.goto (.connect [] .idle)) ((s.setSt .idle).complete (.bool true)) :=
  .line rfl nofun (.line rfl nofun (.line rfl nofun (.done _)))

/-- R185: the end of `CONNECT` after the `clearFaults` request, on a line that is silent from then on. -/
theorem walk_cleared : ∃ acts, Walk acts (s.goto (.xchg .clear (.latch 15000#16)))
    (((drained (polled s 15000#16)).setSt .idle).complete (.bool true)) :=
  ⟨_, walk_latch_return.trans walk_idle⟩

/-! ### Any line after the drain of the answer -/

/-- A probe of `CONNECT` that has drained the answer, and any line after it. -/
def answered (s : State) (p : Nat) (rest : List Nat) (ins : List Input) : State :=
  on ((heard s p).goto (.xchg (.probe (.connect rest)) (.ready pingSig))) ins

theorem coherent_answered (hw : s.cfg.wf = true) (hp : p < s.cfg.nPorts) (hr : s.result = none ∧ s.done = false) :
    Coherent (answered s p rest ins) where
  cfg_wf := hw
  st_ok := List.mem_singleton_self _
  ph_ok := ⟨fun _ => rfl, fun _ => rfl⟩
  rx_closed _ := rfl
  rx_depth _ _ := Nat.zero_le _
  el_step := (by decide : (100#17).toNat % 100 = 0)
  el_max := (by decide : (100#17).toNat ≤ 65600)
  el_poll _ := (by decide : (100#17).toNat < (2000#16).toNat + 100)
  el_wait := nofun
  port_ok := hp
  opens_ok := trivial
  busy_result _ := hr
  args_fit := (bytesFit_iff _ _).2 fun _ hd => length_le_depth hw hd (by decide)
  result_fits := congrArg (resultFits s.cfg) hr.1

/-- A `CONNECT` that has reached `Idle` on a port, with what it has written. -/
structure Connected (written : List (Nat × Byte)) (port : Nat) (opens : List Bool) (t : State) : Prop where
  ended : t.busy = false
  result : t.result = some ⟨.ok, some (.bool true)⟩
  st : t.st = .idle
  port : t.port = port
  opens : t.opens = opens
  txlog : t.txlog = written

/-- A `CONNECT` that is decided ends with true, in `Idle`. -/
theorem connected_resume {written : List (Nat × Byte)} {opens : List Bool} (hc : Coherent u) (hown : OwnedBy .connect u)
    (hn : NoReset u) (hl : NoLook u) (hb : u.busy = true) (hdec : Decided .connect written p opens u) :
    Connected written p opens u.resume := by
  have hend := resume_ends hl
  have hjob := (busy_eq_false_iff _).1 hend
  obtain ⟨⟨more, hmore, htx⟩, hport, hopens, hres⟩ := keptBy_decided.resume hn hown hdec
  have hres := hres rfl hjob
  have hnone : more = [] := by
    rw [toWrite, hjob] at hmore
    exact (Option.some.inj hmore).symm
  have hrun := (keptInRun_connectRun u).resume
    { coherent := hc, owned := hown, inputs := List.suffix_rfl, result := fun hj => by simp [State.busy, hj] at hb }
  have hst : u.resume.st = .idle := by
    obtain ⟨hr, -⟩ | hr := hrun.result hjob
    · exact absurd hr hn
    · simpa [hres] using hr
  exact ⟨hend, hres, hst, hport, hopens, by simpa [hnone] using htx⟩

/-- R185, R294, D14: a port that opens to a peer whose answer the second check finds: nothing on the line after the drain but
a reset keeps `CONNECT` from `Idle`. -/
theorem reaches_connected (hw : s.cfg.wf = true) (h : s.openOk p = true) (hr : s.result = none ∧ s.done = false)
    (hn : Input.reset ∉ ins) (hl : Input.look ∉ ins) : ∃ t, Connected (s.txlog ++ sent p [0x00#8, 0x5D#8, 0x00#8, 0x07#8] ++
        sent p (wireBytes (clearRequest s.cfg))) p s.opens.tail t ∧ t.lastpos = s.lastpos ∧
      Reaches (on (s.goto (.connect rest (.ask p)))
        (List.replicate 7 .go ++ (pingSig.map .rx ++ (.tick :: List.replicate 4 .go ++ ins)))) t := by
  obtain ⟨hp, -⟩ := (openOk_iff s p).1 h
  have hown : OwnedBy .connect (answered s p rest ins) := fun j hj => Option.some.inj hj ▸ rfl
  have hdec : Decided .connect _ p s.opens.tail (answered s p rest ins) :=
    ⟨⟨_, congrArg some (clearEntries_open nofun), rfl⟩, rfl, rfl, nofun⟩
  exact ⟨_, connected_resume (coherent_answered hw hp hr) hown hn hl rfl hdec,
    (effect_resume (s := answered s p rest ins) hn hown).lastpos nofun,
    (reaches_signature hw h).trans (walk_signature.reaches.trans (reaches_resume hl))⟩

/-! ### `CONNECT` to the port it is given -/

/-- R52, R54: bytes that arrive on an empty queue of an open session. -/
theorem arriveAll_empty (r : List Byte) (hw : s.cfg.wf = true) (h : s.st ≠ .closed) (hq : s.rxq = []) :
    ∃ q : List Byte, (4 ≤ q.length ↔ 4 ≤ r.length) ∧ s.arriveAll r =
      { s with
        rxq := q
        diag := s.diag ||| (if s.cfg.rxDepth.any (fun d => decide (d < r.length)) then 0x40#8 else 0x00#8) } := by
  cases hd : s.cfg.rxDepth with
  | none => exact ⟨r, Iff.rfl, by simp [arriveAll_unbounded s r h hd, hq]⟩
  | some d =>
    have hd4 : 514 ≤ d := by simpa [Config.wf, hd] using And.right (by simpa [Config.wf, hd] using hw)
    refine ⟨r.take d, by rw [List.length_take]; omega, ?_⟩
    rw [arriveAll_bounded r h hd (by simp [hq])]
    by_cases hlt : d < r.length <;> simp [hq, hlt]

/-- A command that has ended, its inputs used up. -/
theorem complete_eq_endedWith {x : Value} (hj : s.job = none) : s.accept.complete x = endedWith s x :=
  accept_complete s ((busy_eq_false_iff s).2 hj) x

/-- Settles O50: on a silent line, with bytes that answer the `clearFaults` request, and on any line. -/
theorem connectToAPeerThatAnswers : Obligations.ConnectToAPeerThatAnswers := by
  intro s port more r ins hj hw hst hp ho
  have hb := (busy_eq_false_iff s).2 hj
  have hopen : s.accept.openOk port = true := (openOk_iff s.accept port).2 ⟨hp, more, ho⟩
  obtain rfl : more = s.opens.tail := (congrArg List.tail ho).symm
  have hel : lastCheck 15000#16 = 15000#17 := by decide
  have hport : Walk (List.replicate 2 .go) (s.accept.goto (.connect [] (.test false port))) _ := walk_connect_port hst
  refine ⟨fun hi => ?_, fun hi => ?_, fun hi hn hl => ?_⟩
  · have hl : NoLook s := by simp [NoLook, hi]
    obtain ⟨acts, hclear⟩ := walk_cleared (s := clearing s.accept port)
    have hend := (walk_signature (rest := [])).trans (walk_clear.trans hclear)
    have hrun := hport.reaches.trans ((reaches_signature (s := s.accept) hw hopen).trans (hend.reaches_await rfl rfl))
    rw [exec_of_reaches hb hl rfl (by simp [hi]) hrun rfl, drained_polled, hel, ← complete_eq_endedWith (by exact hj)]
    rfl
  · have hl : NoLook s := by simp [NoLook, hi]
    obtain ⟨q, hq, ha⟩ := arriveAll_empty (s := (clearing s.accept port).goto (.xchg .clear (.latch 15000#16))) r hw nofun rfl
    obtain ⟨acts, hclear⟩ := walk_cleared (s := { clearing s.accept port with
      rxq := q, diag := s.diag ||| (if s.cfg.rxDepth.any (fun d => decide (d < r.length)) then 0x40#8 else 0x00#8) })
    have hbytes := reaches_rx (u := (clearing s.accept port).goto (.xchg .clear (.latch 15000#16))) (ins := [.await]) r rfl
    rw [ha] at hbytes
    have hrun := hport.reaches.trans ((reaches_signature (s := s.accept) (rest := []) hw hopen).trans
      ((walk_signature.trans walk_clear).reaches.trans (hbytes.trans (hclear.reaches_await rfl rfl))))
    rw [exec_of_reaches hb hl rfl (by simp [hi]) hrun rfl, drained_polled, hel, ← complete_eq_endedWith (by exact hj)]
    simp only [hq]
    by_cases h4 : 4 ≤ r.length
    · simp only [h4, if_true, BitVec.or_zero]
      rfl
    · simp only [h4, if_false, BitVec.or_assoc, BitVec.or_comm 0x02#8]
      rfl
  · obtain ⟨t, ht, hlast, hr⟩ := reaches_connected (s := s.accept) (rest := []) hw hopen ⟨rfl, rfl⟩ hn hl
    have hl : NoLook s := by simp [NoLook, hi, hl]
    have he := exec_of_reaches (i := .connect false port) hb hl rfl (by simp [hi]) (hport.reaches.trans hr) ht.ended
    exact ⟨t, he, ht.ended, ht.result, ht.st, ht.port, ht.opens, hlast, ht.txlog⟩

/-! ### `CONNECT` by a scan -/

/-- R185: what `CONNECT` from `Closed` answers on any line. -/
theorem connect_value {auto : Bool} {port : Nat} (hc : Coherent s) (hb : s.busy = false) (hn : NoReset s) (hl : NoLook s)
    (he : exec (.connect auto port) s = .next t) :
    t.busy = false ∧ Coherent t ∧ t.result = some ⟨.ok, some (.bool (decide (t.st = .idle)))⟩ := by
  have hrun := connectRun_exec hc hb he
  obtain ⟨t', he', hend⟩ := everyCommandEnds (.connect auto port) s hb hl
  obtain rfl := Host.Outcome.next.inj (he'.symm.trans he)
  obtain ⟨hr, -⟩ | hr := hrun.result ((busy_eq_false_iff _).1 hend)
  · exact absurd hr hn
  · exact ⟨hend, hrun.coherent, hr⟩

theorem Walk.look_not_mem (h : Walk acts s t) : Input.look ∉ acts := by
  induction h <;> simp_all

theorem range_eq_append {b n : Nat} (h : b < n) : ∃ rest, List.range n = List.range b ++ b :: rest := by
  obtain ⟨d, rfl⟩ := Nat.exists_eq_add_of_lt h
  exact ⟨_, by rw [Nat.add_assoc, List.range_add, List.range_succ_eq_map, List.map_cons, Nat.add_zero]⟩

/-- D12: the answers for the ports before the first that answers. -/
theorem opened_before {b n : Nat} (before more : List Bool) (hb : before.length = b) (h : b ≤ n) :
    opened n (List.range b) (before ++ more) = (List.range b).filter fun p => before.getD p false := by
  rw [opened_range h]
  refine List.filter_congr fun p hp => ?_
  rw [List.getD_append _ _ _ _ (hb ▸ List.mem_range.1 hp)]

/-- Settles O51: the scan passes the ports before and stays on the one whose answer is drained; on any line its value says
whether it has reached `Idle`. -/
theorem scanStopsAtThePortThatAnswers : Obligations.ScanStopsAtThePortThatAnswers := by
  refine ⟨fun s port before more ins hj hw hst hb ho hi hn hl => ?_, fun s t auto port hc hb hn hl _ he => ?_⟩
  · have hlen : (List.range before.length).length = before.length := List.length_range
    obtain ⟨rest, hrange⟩ := range_eq_append hb
    obtain ⟨u, hu, hwalk⟩ := walk_ports (s := s.accept) (rest := before.length :: rest) (List.range before.length)
      (fun p hp => (List.mem_range.1 hp).trans hb) (by simp [ho]) hst
    have hopens : u.opens = true :: more := by simpa [hlen, ho] using hu.opens
    have hopen : u.openOk before.length = true := (openOk_iff u _).2 ⟨hu.cfg.symm ▸ hb, more, hopens⟩
    obtain ⟨t, ht, hlast, hr⟩ := reaches_connected (rest := rest) (hu.cfg.symm ▸ hw) hopen ⟨hu.result, hu.done⟩ hn hl
    have hauto : Walk (List.replicate 2 .go) (s.accept.goto (.connect [] (.test true port))) _ := walk_connect_auto hst
    have htake : s.accept.opens.take (List.range before.length).length = before := by simp [ho]
    rw [accept_cfg, hrange] at hauto
    rw [htake] at hwalk
    have hnl : NoLook s := by simp [NoLook, hi, hl, hwalk.look_not_mem]
    have hrun := hauto.reaches.trans (hwalk.reaches.trans (walk_scan_cons.reaches.trans hr))
    have he := exec_of_reaches (i := .connect true port) ((busy_eq_false_iff s).2 hj) hnl rfl (by simp [hi]) hrun ht.ended
    have hlog := hu.txlog
    rw [accept_opens, accept_cfg, ho, opened_before before _ rfl hb.le, accept_txlog] at hlog
    exact ⟨t, he, ht.ended, ht.result, ht.st, ht.port, ht.opens.trans (congrArg List.tail hopens), hlast.trans hu.lastpos,
      by rw [ht.txlog, hlog, hu.cfg, accept_cfg]⟩
  · obtain ⟨hend, hct, hr⟩ := connect_value hc hb hn hl he
    have hrest := (atRest_of_coherent hct ((busy_eq_false_iff t).1 hend)).st_ok
    exact ⟨hr, fun hne => have hcl := hrest.resolve_right hne; ⟨hcl, hct.rx_closed hcl⟩⟩

end Sys2Proof.Proofs

/-! Proofs for the family 42_transport.md, continued: what each command transmits, whatever the line does. -/

namespace Sys2Proof.Proofs

open Sys2Proof.Machine

variable {o : Owner} {s t u : State} {plan ahead rest : List Nat} {opens : List Bool} {log : List (Nat × Byte)}
  {current : Option Nat}

/-! ### The commands other than `CONNECT`, and `CONNECT` in `Idle` -/

/-- A command that is decided at its first line has written all it had to write at its end. -/
theorem txlog_of_toWrite {i : Instr} {j : Job} {more : List (Nat × Byte)} (hb : s.busy = false) (hn : NoReset s)
    (hl : NoLook s) (hj : firstJob s.cfg i = some j) (hw : toWrite (started s j) = some more) (he : exec i s = .next t) :
    t.txlog = s.txlog ++ more := by
  have hstart : Decided (instrOwner i) (s.txlog ++ more) s.port s.opens (started s j) := ⟨⟨more, hw, rfl⟩, rfl, rfl, nofun⟩
  obtain ⟨hnone, ⟨more', hmore, htx⟩, -⟩ := keptBy_decided.exec hb hn hl hj hstart he
  rw [toWrite, hnone] at hmore
  obtain rfl := Option.some.inj hmore
  rwa [List.append_nil] at htx

theorem txlog_at_once {i : Instr} (hb : s.busy = false) (hj : firstJob s.cfg i = none) (he : exec i s = .next t) :
    t.txlog = s.txlog := by
  obtain ⟨-, rfl⟩ | ⟨j, hj', -⟩ | ⟨-, rfl⟩ | ⟨c, -, rfl⟩ | ⟨-, p, rfl⟩ := exec_cases hb he
  · rfl
  · simp [hj] at hj'
  · split <;> rfl
  · rfl
  · exact arriveAll_txlog s _

theorem requestOf_eq_none {cfg : Config} {i : Instr} (hj : firstJob cfg i = none) : requestOf cfg i = none := by
  cases i
  case isconnected | exchange | getpos | wirePing | wireClearfaults | wireSettrajabs | wireAmpon | wireAmpoff | wireHome |
    wireStartmove | wireReadpos | wireSetpos => cases hj
  all_goals rfl

/-- R194: a command other than `CONNECT` writes its request, where it has one and the session is open, and nothing else. -/
theorem txlog_request {i : Instr} (hb : s.busy = false) (hn : NoReset s) (hl : NoLook s)
    (hi : ∀ auto port, i ≠ .connect auto port) (he : exec i s = .next t) :
    (requestOf s.cfg i = none ∧ t.txlog = s.txlog) ∨
    (∃ p, requestOf s.cfg i = some p ∧
      t.txlog = s.txlog ++ if s.st = .closed then [] else sent s.port (wireBytes p)) := by
  cases hj : firstJob s.cfg i with
  | none => exact .inl ⟨requestOf_eq_none hj, txlog_at_once hb hj he⟩
  | some j =>
    obtain ⟨auto, port, rfl, -⟩ | ⟨k, p, tmo, rfl, hp, ho, -⟩ := firstJob_cases hj
    · exact absurd rfl (hi auto port)
    · have hk : isScanProbe k = false := by
        rcases k with _ | _ | (_ | _) | _
        case probe.connect => exact absurd (jobOwner_firstJob hj).symm ho
        all_goals rfl
      exact .inr ⟨p, hp, txlog_of_toWrite hb hn hl hj (toWrite_xchg hk) he⟩

theorem txlog_connect_idle {auto : Bool} {port : Nat} (hb : s.busy = false) (hn : NoReset s) (hl : NoLook s)
    (hst : s.st = .idle) (he : exec (.connect auto port) s = .next t) : t.txlog = s.txlog :=
  (txlog_of_toWrite (i := .connect auto port) hb hn hl rfl (if_pos hst) he).trans (List.append_nil _)

/-! ### The ports a `CONNECT` has tried -/

/-- The pings to these ports. -/
def pings (ports : List Nat) : List (Nat × Byte) := ports.flatMap fun p => sent p [0x00#8, 0x5D#8, 0x00#8, 0x07#8]

/-- R182, R185: the ports of the plan that are not ahead have been tried from `s` on: their answers are used up, and `log` has
the pings to those that opened. The port in use is the one that was tried last, and it has opened. -/
def Tried (s : State) (plan ahead : List Nat) (opens : List Bool) (log : List (Nat × Byte)) (current : Option Nat) : Prop :=
  ∃ tried, tried ++ ahead = plan ∧ opens = answersAfter s.cfg.nPorts tried s.opens ∧
    log = s.txlog ++ pings (opened s.cfg.nPorts tried s.opens) ∧
    ∀ p ∈ current, tried.getLast? = some p ∧ (opened s.cfg.nPorts tried s.opens).getLast? = some p

theorem Tried.given_up (h : Tried s plan ahead opens log current) : Tried s plan ahead opens log none := by
  obtain ⟨tried, hp, ho, hl, -⟩ := h
  exact ⟨tried, hp, ho, hl, nofun⟩

/-- R182: one more port. -/
theorem opened_concat (n : Nat) (ports : List Nat) (p : Nat) (answers : List Bool) :
    opened n (ports ++ [p]) answers =
      opened n ports answers ++ if p < n ∧ (answersAfter n ports answers).headD false = true then [p] else [] := by
  rw [opened_append, opened, opened, List.append_nil]

theorem answersAfter_concat (n : Nat) (ports : List Nat) (p : Nat) (answers : List Bool) :
    answersAfter n (ports ++ [p]) answers =
      if p < n then (answersAfter n ports answers).tail else answersAfter n ports answers :=
  answersAfter_append n ports [p] answers

/-- R182: an attempt uses up the answer for its port. -/
theorem askOpen_opens_after {p : Nat} {tried : List Nat} (hc : u.cfg = s.cfg)
    (ho : u.opens = answersAfter s.cfg.nPorts tried s.opens) :
    (u.askOpen p).opens = answersAfter s.cfg.nPorts (tried ++ [p]) s.opens := by
  rw [answersAfter_concat, ← ho, ← hc]
  exact apply_ite State.opens ..

theorem Tried.opens_next {p : Nat} (hc : u.cfg = s.cfg) (hp : u.openOk p = true)
    (h : Tried s plan (p :: rest) u.opens log none) :
    Tried s plan rest (u.askOpen p).opens (log ++ sent p [0x00#8, 0x5D#8, 0x00#8, 0x07#8]) (some p) := by
  obtain ⟨tried, hplan, ho, hl, -⟩ := h
  have hyes : p < s.cfg.nPorts ∧ u.opens.headD false = true := by simpa [State.openOk, hc] using hp
  have hh : opened s.cfg.nPorts (tried ++ [p]) s.opens = opened s.cfg.nPorts tried s.opens ++ [p] := by
    rw [opened_concat, ← ho, if_pos hyes]
  refine ⟨tried ++ [p], by simpa using hplan, askOpen_opens_after hc ho, by simp [hh, hl, pings], fun q hq => ?_⟩
  obtain rfl := Option.some.inj hq
  simp [hh]

theorem Tried.refused_next {p : Nat} (hc : u.cfg = s.cfg) (hp : u.openOk p = false)
    (h : Tried s plan (p :: rest) u.opens log none) : Tried s plan rest (u.askOpen p).opens log none := by
  obtain ⟨tried, hplan, ho, hl, -⟩ := h
  have hno : ¬ (p < s.cfg.nPorts ∧ u.opens.headD false = true) := by simpa [State.openOk, hc] using hp
  have hh : opened s.cfg.nPorts (tried ++ [p]) s.opens = opened s.cfg.nPorts tried s.opens := by
    rw [opened_concat, ← ho, if_neg hno, List.append_nil]
  exact ⟨tried ++ [p], by simpa using hplan, askOpen_opens_after hc ho, by rw [hh, hl], nofun⟩

/-! ### The search for a peer that answers -/

/-- R185: the ports that `CONNECT` with these arguments goes through. -/
def planOf (cfg : Config) (auto : Bool) (port : Nat) : List Nat := if auto then List.range cfg.nPorts else [port]

/-- A `CONNECT` that began in `Closed`, from `s` on, and has not heard a peer's answer yet: at each of its lines, the ports it
has tried and what it has still to write to the one in use. -/
def Searching (s : State) (plan : List Nat) (u : State) : Prop :=
  match u.job with
  | some (.connect _ (.test auto port)) => u.st = .closed ∧ Tried s plan (planOf u.cfg auto port) u.opens u.txlog none
  | some (.connect _ (.mode auto port)) => Tried s plan (planOf u.cfg auto port) u.opens u.txlog none
  | some (.connect rest (.ask p)) => Tried s plan (p :: rest) u.opens u.txlog none
  | some (.connect rest (.opening p)) =>
    Tried s plan rest u.opens (u.txlog ++ sent p [0x00#8, 0x5D#8, 0x00#8, 0x07#8]) (some p)
  | some (.connect rest .scan) | some (.connect rest .openfail) | some (.connect rest .close)
  | some (.connect rest (.one false)) => Tried s plan rest u.opens u.txlog none
  | some (.connect _ (.ret false)) => Tried s plan [] u.opens u.txlog none
  | some (.xchg (.probe (.connect rest)) l) => Tried s plan rest u.opens (u.txlog ++ xchgEntries u l) (some u.port)
  | some (.probe (.connect rest) (.compare _)) => Tried s plan rest u.opens u.txlog (some u.port)
  | some (.probe (.connect rest) (.note false)) | some (.probe (.connect rest) (.ret false)) =>
    Tried s plan rest u.opens u.txlog none
  | none => u.result = some ⟨.ok, some (.bool false)⟩ ∧ Tried s plan [] u.opens u.txlog none
  | _ => False

/-- A `CONNECT` that has heard the peer on the port it tried last: what it has still to write is decided. -/
def Secured (s : State) (plan : List Nat) (u : State) : Prop :=
  ∃ ahead opens log p, Tried s plan ahead opens log (some p) ∧
    Decided .connect (log ++ sent p (wireBytes (clearRequest s.cfg))) p opens u

/-- What `CONNECT` from `Closed` keeps on any line. -/
structure ConnectsBy (s : State) (plan : List Nat) (u : State) : Prop where
  coherent : Coherent u
  cfg : u.cfg = s.cfg
  phase : Searching s plan u ∨ Secured s plan u

theorem searching_xchgLine {l : XchgLine} (hj : u.job = some (.xchg (.probe (.connect rest)) l))
    (h : Tried s plan rest u.opens (u.txlog ++ xchgEntries u l) (some u.port)) :
    Searching s plan (xchgLine (.probe (.connect rest)) l u) := by
  obtain ⟨hport, hopens⟩ := xchgLine_port_opens (k := .probe (.connect rest)) (s := u) (l := l)
  obtain ⟨v, l', hv, htx⟩ | ⟨p, hv, hnone⟩ := xchgLine_entries hj
  · rw [hv] at hport hopens ⊢
    rw [← htx, ← hport, ← hopens] at h
    exact h
  · rw [hnone, List.append_nil] at h
    exact hv ▸ h

/-- R184, R185: the comparison decides whether the peer on the port in use has answered. -/
theorem phase_probeLine {l : ProbeLine} (hst : u.st ≠ .closed) (hcfg : u.cfg = s.cfg)
    (h : Searching s plan (u.goto (.probe (.connect rest) l))) :
    Searching s plan (probeLine (.connect rest) l u) ∨ Secured s plan (probeLine (.connect rest) l u) := by
  cases l with
  | compare r =>
    have h : Tried s plan rest u.opens u.txlog (some u.port) := h
    by_cases hr : r = sigPacket
    · have hline : probeLine (.connect rest) (.compare r) u = u.goto (.probe (.connect rest) (.note true)) := by
        simp [probeLine, hr]
      have hw : clearEntries u = sent u.port (wireBytes (clearRequest s.cfg)) := hcfg ▸ clearEntries_open hst
      exact .inr ⟨rest, u.opens, u.txlog, u.port, h, hline ▸ ⟨⟨_, congrArg some hw, rfl⟩, rfl, rfl, nofun⟩⟩
    · have hline : probeLine (.connect rest) (.compare r) u = u.goto (.probe (.connect rest) (.note false)) := by
        simp [probeLine, hr]
      exact .inl (hline ▸ h.given_up)
  | note ok =>
    cases ok with
    | true => exact h.elim
    | false => exact .inl h
  | ret ok =>
    cases ok with
    | true => exact h.elim
    | false => exact .inl h

theorem searching_connectLine {l : ConnectLine} (hcfg : u.cfg = s.cfg) (h : Searching s plan (u.goto (.connect rest l))) :
    Searching s plan (connectLine rest l u) := by
  cases l with
  | test auto port =>
    obtain ⟨hst, h⟩ := h
    have hline : connectLine rest (.test auto port) u = u.goto (.connect [] (.mode auto port)) :=
      if_neg fun hi : u.st = .idle => by simp [hi] at hst
    exact hline ▸ h
  | mode auto port => cases auto <;> exact h
  | scan => cases rest <;> exact h
  | ask p =>
    have h : Tried s plan (p :: rest) u.opens u.txlog none := h
    cases hp : u.openOk p with
    | true =>
      have hline : connectLine rest (.ask p) u = (u.askOpen p).goto (.connect rest (.opening p)) := if_pos hp
      have htx : (u.askOpen p).txlog = u.txlog := askOpen_txlog u p
      have hn := h.opens_next hcfg hp
      rw [← htx] at hn
      exact hline ▸ hn
    | false =>
      have hline : connectLine rest (.ask p) u = (u.askOpen p).goto (.connect rest .openfail) :=
        if_neg (Bool.eq_false_iff.1 hp)
      have htx : (u.askOpen p).txlog = u.txlog := askOpen_txlog u p
      have hn := h.refused_next hcfg hp
      rw [← htx] at hn
      exact hline ▸ hn
  | opening p => exact h
  | openfail | close => exact h
  | clear | idle => exact h.elim
  | one ok =>
    cases ok with
    | true => exact h.elim
    | false => exact h
  | ret ok =>
    cases ok with
    | true => exact h.elim
    | false => exact ⟨rfl, h⟩

theorem Secured.keep (hd : ∀ written p opens, Decided .connect written p opens u → Decided .connect written p opens t)
    (h : Secured s plan u) : Secured s plan t := by
  obtain ⟨ahead, opens, log, p, htried, hdec⟩ := h
  exact ⟨ahead, opens, log, p, htried, hd _ _ _ hdec⟩

/-- R185: a line of `CONNECT` in the search either goes on with it or ends it with a peer that has answered. -/
theorem phase_blockLine (hc : Coherent u) (hcfg : u.cfg = s.cfg) (h : Searching s plan u) :
    Searching s plan u.blockLine ∨ Secured s plan u.blockLine := by
  cases hj : u.job with
  | none => exact .inl ((blockLine_none u hj).symm ▸ h)
  | some j =>
    rw [← goto_self hj] at h
    cases j with
    | xchg k l =>
      rcases k with _ | _ | (_ | rest) | _
      case probe.connect => exact .inl (blockLine_xchg u _ l hj ▸ searching_xchgLine hj h)
      all_goals exact h.elim
    | probe c l =>
      cases c with
      | isconnected => exact h.elim
      | connect rest =>
        have hst : u.st = .probing := List.mem_singleton.1 (readyFor_of_coherent hc hj).st_ok
        exact blockLine_probe u _ l hj ▸ phase_probeLine (by simp [hst]) hcfg h
    | getpos a l => exact h.elim
    | connect rest l => exact .inl (blockLine_connect u rest l hj ▸ searching_connectLine hcfg h)

theorem keptBy_connectsBy : KeptBy .connect (ConnectsBy s plan) where
  inputs u ins h :=
    { coherent := { h.coherent with }, cfg := h.cfg
      phase := h.phase.imp id (Secured.keep fun _ _ _ => keptBy_decided.inputs u ins) }
  arrive u b h :=
    { coherent := coherent_arrive h.coherent b, cfg := (arrive_cfg u b).trans h.cfg
      phase := h.phase.imp (fun h => by simpa [Searching, xchgEntries_arrive] using h)
        (Secured.keep fun _ _ _ => keptBy_decided.arrive u b) }
  tick u k hj h :=
    { coherent := tickEvent_waiting u k hj ▸ coherent_tickEvent h.coherent, cfg := h.cfg
      phase := by
        refine h.phase.imp (fun h => ?_) (Secured.keep fun _ _ _ => keptBy_decided.tick u k hj)
        rw [← goto_self hj] at h
        rcases k with _ | _ | (_ | rest) | _
        case probe.connect => exact h
        all_goals exact h.elim }
  line u ho h :=
    { coherent := coherent_blockLine h.coherent, cfg := (effect_blockLine ho).cfg.trans h.cfg
      phase := h.phase.elim (phase_blockLine h.coherent h.cfg)
        fun h => .inr (h.keep fun _ _ _ => keptBy_decided.line u ho) }

/-! ### What a `CONNECT` in `Closed` has transmitted -/

theorem eq_range_of_append {n p : Nat} {tried : List Nat} (h : tried ++ ahead = List.range n) (hp : tried.getLast? = some p) :
    tried = List.range (p + 1) ∧ p + 1 ≤ n := by
  have ht : tried = (List.range n).take tried.length := List.prefix_iff_eq_take.1 ⟨ahead, h⟩
  rw [List.take_range] at ht
  have hmin : min tried.length n ≤ n := Nat.min_le_right _ _
  generalize min tried.length n = m at ht hmin
  obtain rfl := ht
  cases m with
  | zero => cases hp
  | succ m =>
    obtain rfl : m = p := by simpa [List.range_succ] using hp
    exact ⟨rfl, hmin⟩

/-- R182: the one attempt of `CONNECT` with `auto = 0`. -/
theorem opened_singleton (n p : Nat) (answers : List Bool) :
    opened n [p] answers = if p < n ∧ answers.headD false = true then [p] else [] := by
  rw [opened, opened, List.append_nil]

theorem eq_singleton_of_append {p q : Nat} {tried : List Nat} (h : tried ++ ahead = [q]) (hp : tried.getLast? = some p) :
    tried = [q] := by
  cases tried with
  | nil => cases hp
  | cons x xs => simp_all

theorem connect_transmits {auto : Bool} {port : Nat} (hc : Coherent s) (hb : s.busy = false) (hn : NoReset s) (hl : NoLook s)
    (hst : s.st = .closed) (he : exec (.connect auto port) s = .next t) :
    ∃ opened : List Nat, t.txlog = s.txlog ++ pings opened ++
        (if t.st = .idle then sent t.port (wireBytes (clearRequest s.cfg)) else []) ∧
      (t.st = .idle → opened.getLast? = some t.port) ∧
      (auto = false → opened = if port < s.cfg.nPorts ∧ s.opens.headD false = true then [port] else []) ∧
      (auto = true → opened = (List.range (if t.st = .idle then t.port + 1 else s.cfg.nPorts)).filter
        (fun p => s.opens.getD p false)) := by
  obtain ⟨-, -, hvalue⟩ := connect_value hc hb hn hl he
  have hstart : ConnectsBy s (planOf s.cfg auto port) (started s (.connect [] (.test auto port))) :=
    { coherent := coherent_started hc hb, cfg := rfl
      phase := .inl ⟨hst, [], rfl, rfl, (List.append_nil _).symm, nofun⟩ }
  obtain ⟨hjob, -, -, hphase⟩ :=
    KeptBy.exec (i := .connect auto port) keptBy_connectsBy hb hn hl rfl hstart he
  unfold Searching at hphase
  rw [hjob] at hphase
  obtain ⟨hres, tried, hplan, -, hlog, -⟩ | ⟨ahead, opens, log, p, ⟨tried, hplan, -, hlog, hp⟩, hdec⟩ := hphase
  · have hidle : t.st ≠ .idle := by simpa [hres] using hvalue
    rw [List.append_nil] at hplan
    refine ⟨opened s.cfg.nPorts tried s.opens, by simp [hlog, hidle], fun h => absurd h hidle, fun ha => ?_, fun ha => ?_⟩
    · rw [hplan, planOf, ha, if_neg Bool.false_ne_true, opened_singleton]
    · rw [hplan, planOf, ha, if_pos rfl, if_neg hidle, opened_range (Nat.le_refl _)]
  · obtain ⟨⟨more, hmore, htx⟩, hport, -, hres⟩ := hdec
    rw [toWrite, hjob] at hmore
    obtain rfl := Option.some.inj hmore
    rw [List.append_nil] at htx
    have hidle : t.st = .idle := by simpa [hres rfl hjob] using hvalue
    obtain ⟨hlast, hlast'⟩ := hp p rfl
    refine ⟨opened s.cfg.nPorts tried s.opens, by rw [htx, hlog, if_pos hidle, hport], fun _ => hport.symm ▸ hlast',
      fun ha => ?_, fun ha => ?_⟩
    · rw [planOf, ha, if_neg Bool.false_ne_true] at hplan
      rw [eq_singleton_of_append hplan hlast, opened_singleton]
    · rw [planOf, ha, if_pos rfl] at hplan
      obtain ⟨htried, hle⟩ := eq_range_of_append hplan hlast
      rw [htried, opened_range hle, if_pos hidle, hport]

/-- Settles O54: the request of a command in `Idle`, and the pings and the `clearFaults` request of `CONNECT` in `Closed`. -/
theorem whatEachCommandTransmits : Obligations.WhatEachCommandTransmits := by
  intro s t i hc hb hn hl he
  refine ⟨fun hst hi => ?_, fun hst p hp => ?_, fun hst hp => ?_, fun auto port hst hi => ?_⟩
  · obtain ⟨-, htx⟩ | ⟨p, -, htx⟩ := txlog_request hb hn hl hi he
    · exact htx
    · rwa [if_pos hst, List.append_nil] at htx
  · have hi : ∀ auto port, i ≠ .connect auto port := fun auto port hi => by simp [hi, requestOf] at hp
    obtain ⟨hp', -⟩ | ⟨q, hq, htx⟩ := txlog_request hb hn hl hi he
    · simp [hp] at hp'
    · obtain rfl := Option.some.inj (hp.symm.trans hq)
      rwa [if_neg (by simp [hst])] at htx
  · by_cases hi : ∃ auto port, i = .connect auto port
    · obtain ⟨auto, port, rfl⟩ := hi
      exact txlog_connect_idle hb hn hl hst he
    · obtain ⟨-, htx⟩ | ⟨q, hq, -⟩ := txlog_request hb hn hl (fun auto port h => hi ⟨auto, port, h⟩) he
      · exact htx
      · simp [hp] at hq
  · obtain rfl := hi
    exact connect_transmits hc hb hn hl hst he

end Sys2Proof.Proofs

/-! Proofs for the family 43_facade_sequences.md: what one request of a sequence leaves on a quiet line, and the sequences as
requests in a row. -/

namespace Sys2Proof.Proofs

open Sys2Proof.Machine

variable {s t : State} {p : Packet} {cfg : Config}

/-! ### One request of a sequence -/

/-- R230 on a quiet line: the state after a request of a sequence; `sendMade_quiet` ties it to the model. -/
def issued (s : State) (p : Packet) : State := endedWith (afterXchg s p 15000#16) (.pkt (answerTo s p))

/-- A machine with these parameters in which a sequence may be begun: nothing is in flight or outside, and the session is at
rest. -/
structure MayBegin (cfg : Config) (s : State) : Prop where
  quiet : Quiet s
  st_ok : s.st = .closed ∨ s.st = .idle
  cfg_eq : s.cfg = cfg

@[simp] theorem issued_st : (issued s p).st = s.st := by
  unfold issued endedWith afterXchg; split_ifs <;> rfl

@[simp] theorem issued_port : (issued s p).port = s.port := by
  unfold issued endedWith afterXchg; split_ifs <;> rfl

theorem issued_txlog_idle (h : s.st = .idle) : (issued s p).txlog = s.txlog ++ sent s.port (wireBytes p) := by
  have hc : s.st ≠ .closed := by simp [h]
  unfold issued endedWith afterXchg
  rw [if_neg hc]
  split_ifs <;> rfl

/-- R183: in `Closed` the packet comes back and only `DIAG.PASSTHRU` is raised. -/
theorem issued_closed (h : s.st = .closed) : issued s p = endedWith { s with diag := s.diag ||| 0x01#8 } (.pkt p) := by
  rw [issued, answerTo_closed h, afterXchg, if_pos h]

theorem issued_txlog_closed (h : s.st = .closed) : (issued s p).txlog = s.txlog := by
  rw [issued_closed h, endedWith]

theorem issued_diag_closed (h : s.st = .closed) : (issued s p).diag = s.diag ||| 0x01#8 := by
  rw [issued_closed h, endedWith]

theorem MayBegin.issued (h : MayBegin cfg s) (p : Packet) : MayBegin cfg (issued s p) where
  quiet := quiet_afterXchg h.quiet
  st_ok := by simpa using h.st_ok
  cfg_eq := afterXchg_cfg.trans h.cfg_eq

/-- R36: a request does not depend on the result of the command before it. -/
theorem issued_endedWith (v : Value) : issued (endedWith s v) p = issued s p := by
  unfold issued endedWith afterXchg answerTo
  split_ifs <;> rfl

/-- R230: a command that has ended needs no waiting. -/
theorem awaitEnd_ended (h : Quiet t) : t.awaitEnd = t := by
  have hw : ∀ n, t.awaitFor n = t := fun n => by
    cases n with
    | zero => rfl
    | succ n => exact if_neg (by simp [(busy_eq_false_iff t).2 h.1])
  exact hw _

theorem andThen_ended {k : State → Host.Outcome State Fault Refusal} (h : Quiet t) : andThen (.next t) k = k t :=
  congrArg k (awaitEnd_ended h)

/-- R230: a catalog command, then the exchange of the packet it returned. -/
theorem sendMade_quiet {i : Instr} (h : MayBegin cfg s) (hp : isPure i = true) (hv : pureValue cfg i = .pkt p) :
    sendMade (exec i s) = .next (issued s p) := by
  have hmade : exec i s = .next (endedWith s (.pkt p)) := by
    rw [exec_pure hp ((busy_eq_false_iff s).2 h.quiet.1), h.cfg_eq, hv]
  have hsent : execExchange p tDefaultMs (endedWith s (.pkt p)) = .next (issued s p) := by
    rw [← issued_endedWith (.pkt p)]
    exact exec_xchg_quiet (i := .exchange p tDefaultMs) h.quiet h.st_ok rfl (quiet_afterXchg h.quiet) (.done _)
  calc sendMade (exec i s)
      = andThen (execExchange p tDefaultMs (endedWith s (.pkt p))) .next := by rw [hmade]; exact andThen_ended h.quiet
    _ = .next (issued s p) := by rw [hsent]; exact andThen_ended (h.issued p).quiet

/-- R230: the first request of a sequence, then the rest of it. -/
theorem andThen_sendMade {i : Instr} {k : State → Host.Outcome State Fault Refusal} (h : MayBegin cfg s)
    (hp : isPure i = true) (hv : pureValue cfg i = .pkt p) : andThen (sendMade (exec i s)) k = k (issued s p) := by
  rw [sendMade_quiet h hp hv]
  exact andThen_ended (h.issued p).quiet

/-! ### The sequences -/

/-- R232. -/
theorem initAxis_quiet (h : MayBegin cfg s) (a : Axis) : initAxis a s =
    .next (issued (issued (issued s (settrajabsPacket cfg a)) (amponPacket cfg a)) (homePacket cfg a)) :=
  (andThen_sendMade (i := .settrajabs a) h rfl rfl).trans <|
    (andThen_sendMade (i := .ampon a) (h.issued _) rfl rfl).trans <|
      sendMade_quiet (i := .home a) ((h.issued _).issued _) rfl rfl

/-- R233. -/
theorem disableAxis_quiet (h : MayBegin cfg s) (a : Axis) : disableAxis a s = .next (issued s (ampoffPacket cfg a)) :=
  sendMade_quiet (i := .ampoff a) h rfl rfl

/-- R234. -/
theorem moveAxis_quiet (h : MayBegin cfg s) (a : Axis) (v : Word32) : moveAxis a v s =
    .next (issued (issued (issued s (settrajabsPacket cfg a)) (setposPacket cfg a v)) (startmovePacket cfg a)) :=
  (andThen_sendMade (i := .settrajabs a) h rfl rfl).trans <|
    (andThen_sendMade (i := .setpos a v) (h.issued _) rfl rfl).trans <|
      sendMade_quiet (i := .startmove a) ((h.issued _).issued _) rfl rfl

/-- Settles O60: each sequence is its requests in a row, each writing its packet in `Idle` and raising `DIAG.PASSTHRU` in
`Closed`. -/
theorem facadeSequencesTransmit : Obligations.FacadeSequencesTransmit := by
  intro s a v hq
  have idle (h : s.st = .idle) : MayBegin s.cfg s := ⟨hq, .inr h, rfl⟩
  refine ⟨fun h => ⟨_, initAxis_quiet (idle h) a, ?_, ?_⟩, fun h => ⟨_, disableAxis_quiet (idle h) a, ?_, ?_⟩,
    fun h => ⟨_, moveAxis_quiet (idle h) a v, ?_, ?_⟩, fun h => ?_⟩
  iterate 3
    · simp [h]
    · simp [issued_txlog_idle, h]
  · have hb : MayBegin s.cfg s := ⟨hq, .inl h, rfl⟩
    refine ⟨_, _, _, initAxis_quiet hb a, disableAxis_quiet hb a, moveAxis_quiet hb a v, ?_⟩
    simp [issued_txlog_closed, issued_diag_closed, h, BitVec.or_assoc]

end Sys2Proof.Proofs

/-! Proofs for the family 60_exceptions.md: every instruction answers a state, and each line of the block raises the bits of
`DIAG` the table of R256 gives it and no other. -/

namespace Sys2Proof.Proofs

open Sys2Proof.Machine

variable {o : Owner} {s t : State} {j j' : Job} {own d e a : BitVec 8}

/-! ### No instruction stops -/

/-- Settles O8: with no command in flight by `exec_answers`; otherwise a command is ignored (R99) and a packet arrives. -/
theorem everyInstructionAnswersAState : Obligations.EveryInstructionAnswersAState := by
  intro i s
  cases hb : s.busy with
  | false => exact exec_answers i hb
  | true =>
    cases hi : isArrival i with
    | false => exact ⟨s, exec_busy hb hi⟩
    | true =>
      obtain ⟨p, hp⟩ := exec_arrival hi
      exact ⟨_, hp s⟩

/-! ### Sets of bits -/

/-- Every bit of `d` is one of `a`. -/
def BitsIn (d a : BitVec 8) : Prop := d ||| a = a

theorem BitsIn.or (hd : BitsIn d a) (he : BitsIn e a) : BitsIn (d ||| e) a := by
  rw [BitsIn, BitVec.or_assoc, he, hd]

theorem BitsIn.trans (hd : BitsIn d e) (he : BitsIn e a) : BitsIn d a := by
  rw [BitsIn, ← he, ← BitVec.or_assoc, hd]

theorem bitsIn_or_left (d a : BitVec 8) : BitsIn d (d ||| a) := by
  rw [BitsIn, ← BitVec.or_assoc, BitVec.or_self]

theorem bitsIn_or_right (d a : BitVec 8) : BitsIn a (d ||| a) := by
  rw [BitsIn, BitVec.or_comm, BitVec.or_assoc, BitVec.or_self]

theorem BitsIn.and_not (h : BitsIn d a) : d &&& ~~~a = 0#8 := by
  rw [← h, BitVec.not_or, ← BitVec.and_assoc, BitVec.and_not_self]
  exact BitVec.zero_and

/-! ### The bits a line raises, and those of its command -/

/-- R182 to R184, R190: the bits of `DIAG` a line raises; `blockLine_raises` ties the definition to the model. -/
def lineBits : Job → BitVec 8
  | .xchg _ (.passDiag _) => DiagBit.passthru.mask
  | .xchg _ (.short r) => if r.length < 4 then DiagBit.timeout.mask else 0#8
  | .probe _ (.note ok) => if ok then 0#8 else DiagBit.probefail.mask
  | .getpos _ .chkbad => DiagBit.chkbad.mask
  | .getpos _ .badlen => DiagBit.badlen.mask
  | .connect _ .openfail => DiagBit.openfail.mask
  | _ => 0#8

/-- R256: the bits of the command that runs a probe. -/
@[simp] def probeBits : ProbeCaller → BitVec 8
  | .isconnected => 0x4B#8
  | .connect _ => 0x5A#8

/-- R256: the bits of the command that runs an exchange. -/
@[simp] def callerBits : XchgCaller → BitVec 8
  | .exchange => 0x43#8
  | .getpos _ => 0x67#8
  | .probe c => probeBits c
  | .clear => 0x5A#8

/-- R256: the bits of the command a line belongs to; `ownBits_firstJob` ties the definition to the instructions. -/
@[simp] def ownBits : Job → BitVec 8
  | .xchg k _ => callerBits k
  | .probe c _ => probeBits c
  | .getpos _ _ => 0x67#8
  | .connect _ _ => 0x5A#8

theorem ownBits_firstJob {cfg : Config} {i : Instr} (h : firstJob cfg i = some j) : ownBits j = raisable i := by
  cases i <;> cases h <;> rfl

/-- R183: every command that runs an exchange can time out. -/
theorem timeout_bitsIn_callerBits (k : XchgCaller) : BitsIn DiagBit.timeout.mask (callerBits k) := by
  rcases k with _ | a | (_ | rest) | _ <;> simp [BitsIn, DiagBit.mask, DiagBit.index]

/-- R184: every command that runs a probe can find that it fails. -/
theorem probefail_bitsIn_probeBits (c : ProbeCaller) : BitsIn DiagBit.probefail.mask (probeBits c) := by
  cases c <;> simp [BitsIn, DiagBit.mask, DiagBit.index]

/-- R54: a byte may meet a full queue during every command that waits. -/
theorem rxovr_bitsIn_ownBits (j : Job) : BitsIn DiagBit.rxovr.mask (ownBits j) := by
  rcases j with ⟨_ | a | (_ | rest) | _, l⟩ | ⟨_ | rest, l⟩ | ⟨a, l⟩ | ⟨rest, l⟩ <;>
    simp [BitsIn, DiagBit.mask, DiagBit.index]

/-- What the line `j` of a command does to `DIAG`; the line it names next is of the same command. -/
structure Raises (j : Job) (s t : State) : Prop where
  diag : t.diag = s.diag ||| lineBits j
  next : ∀ j', t.job = some j' → ownBits j' = ownBits j

theorem raises_goto (h : ownBits j' = ownBits j) (hd : t.diag = s.diag ||| lineBits j := by simp [lineBits]) :
    Raises j s (t.goto j') :=
  ⟨hd, fun _ hj => Option.some.inj hj ▸ h⟩

theorem raises_finish {r : Result} (hd : t.diag = s.diag ||| lineBits j := by simp [lineBits]) : Raises j s (t.finish r) :=
  ⟨hd, nofun⟩

theorem raises_returnPacket (k : XchgCaller) {l : XchgLine} (p : Packet) (hl : lineBits (.xchg k l) = 0#8) :
    Raises (.xchg k l) s (s.returnPacket k p) := by
  have hd : s.diag = s.diag ||| lineBits (.xchg k l) := by simp [hl]
  cases k with
  | exchange => exact raises_finish hd
  | getpos a => exact raises_goto rfl hd
  | probe c => exact raises_goto rfl hd
  | clear => exact raises_goto rfl hd

theorem raises_xchgLine {k : XchgCaller} {l : XchgLine} (hj : s.job = some (.xchg k l)) :
    Raises (.xchg k l) s (xchgLine k l s) := by
  cases l with
  | test p tmo => dsimp only [xchgLine]; split <;> exact raises_goto rfl
  | check n => dsimp only [xchgLine]; split <;> exact raises_goto rfl
  | short r => dsimp only [xchgLine]; split <;> exact raises_goto rfl (by simp [lineBits, *])
  | wait => exact ⟨by simp [xchgLine, lineBits], fun j' hj' => by rw [Option.some.inj (hj'.symm.trans hj)]⟩
  | passReturn p => exact raises_returnPacket k p rfl
  | ret r => exact raises_returnPacket k (packetOf r) rfl
  | passDiag | write | latch | avail | count | drain | ready => exact raises_goto rfl

theorem raises_probeLine (c : ProbeCaller) (l : ProbeLine) : Raises (.probe c l) s (probeLine c l s) := by
  cases l with
  | compare r => exact raises_goto rfl
  | note ok => cases ok <;> exact raises_goto rfl
  | ret ok =>
    cases c with
    | isconnected => exact raises_finish
    | connect rest => cases ok <;> exact raises_goto rfl

theorem raises_getposLine (a : Axis) (l : GetposLine) : Raises (.getpos a l) s (getposLine a l s) := by
  cases l with
  | valid r => dsimp only [getposLine]; split <;> exact raises_goto rfl
  | length r => dsimp only [getposLine]; split <;> exact raises_goto rfl
  | chkbad | badlen | store => exact raises_goto rfl
  | ret => exact raises_finish

theorem raises_connectLine (rest : List Nat) (l : ConnectLine) : Raises (.connect rest l) s (connectLine rest l s) := by
  cases l with
  | test auto port => dsimp only [connectLine]; split <;> exact raises_goto rfl
  | mode auto port => cases auto <;> exact raises_goto rfl
  | scan => cases rest <;> exact raises_goto rfl
  | ask p => dsimp only [connectLine]; split <;> exact raises_goto rfl
  | openfail | opening | close | clear | idle => exact raises_goto rfl
  | one ok => cases ok <;> exact raises_goto rfl
  | ret ok => exact raises_finish

/-- What the block's next line does to `DIAG`, and whose line comes after it. -/
theorem blockLine_raises (hj : s.job = some j) : Raises j s s.blockLine := by
  cases j with
  | xchg k l => exact blockLine_xchg s k l hj ▸ raises_xchgLine hj
  | probe c l => exact blockLine_probe s c l hj ▸ raises_probeLine c l
  | getpos a l => exact blockLine_getpos s a l hj ▸ raises_getposLine a l
  | connect rest l => exact blockLine_connect s rest l hj ▸ raises_connectLine rest l

/-- R181: `CONNECT` runs its exchanges with a port open, so none of them is passed through. -/
theorem passthru_bitsIn_callerBits {k : XchgCaller} {p : Packet}
    (h : xchgOwner k = .connect → s.st ∈ xchgStates k (.passDiag p)) : BitsIn DiagBit.passthru.mask (callerBits k) := by
  rcases k with _ | a | (_ | rest) | _
  case exchange | getpos | probe.isconnected => simp [BitsIn, DiagBit.mask, DiagBit.index]
  case probe.connect | clear => exact absurd (h rfl) List.not_mem_nil

/-- R256: a line raises no bit but its command's. -/
theorem lineBits_bitsIn_ownBits (h : jobOwner j = .connect → s.st ∈ jobStates (some j)) :
    BitsIn (lineBits j) (ownBits j) := by
  unfold lineBits
  split
  · exact passthru_bitsIn_callerBits h
  · split
    · exact timeout_bitsIn_callerBits _
    · exact BitVec.zero_or
  · split
    · exact BitVec.zero_or
    · exact probefail_bitsIn_probeBits _
  iterate 3 · simp [BitsIn, DiagBit.mask, DiagBit.index]
  · exact BitVec.zero_or

/-! ### A byte that arrives -/

/-- R52, R54: a byte that arrives raises no bit but `RXOVR`. -/
theorem bitsIn_arrive (b : Byte) : BitsIn (s.arrive b).diag (s.diag ||| DiagBit.rxovr.mask) := by
  obtain h | h | ⟨-, -, h⟩ := arrive_cases s b <;> rw [h]
  · exact bitsIn_or_left _ _
  · exact BitVec.or_self
  · exact bitsIn_or_left _ _

theorem bitsIn_arriveAll (bs : List Byte) : BitsIn (s.arriveAll bs).diag (s.diag ||| DiagBit.rxovr.mask) := by
  induction bs generalizing s with
  | nil => exact bitsIn_or_left _ _
  | cons b bs ih => exact ih.trans ((bitsIn_arrive b).or (bitsIn_or_right _ _))

theorem raisable_arrival {i : Instr} (hi : isArrival i = true) : raisable i = DiagBit.rxovr.mask := by
  cases i <;> cases hi <;> rfl

/-! ### Along the run of a command -/

/-- Along the run of `o`'s command, whose bits are `own`, from a state whose `DIAG` is `d`. `CONNECT` alone needs the invariant,
which keeps its exchanges out of `Closed`. -/
structure RaisesOwn (o : Owner) (own d : BitVec 8) (u : State) : Prop where
  raised : BitsIn u.diag (d ||| own)
  owned : ∀ j, u.job = some j → ownBits j = own
  coherent : o = .connect → Coherent u

theorem keptBy_raisesOwn (hx : BitsIn DiagBit.rxovr.mask own) : KeptBy o (RaisesOwn o own d) where
  inputs _ _ h := { h with coherent := fun ho => { h.coherent ho with } }
  arrive u b h := {
    raised := (bitsIn_arrive b).trans (h.raised.or (hx.trans (bitsIn_or_right d own)))
    owned := (arrive_job u b).symm ▸ h.owned
    coherent := fun ho => coherent_arrive (h.coherent ho) b }
  tick u k hj h := {
    raised := h.raised
    owned := fun _ hj' => Option.some.inj hj' ▸ h.owned (.xchg k .wait) hj
    coherent := fun ho => tickEvent_waiting u k hj ▸ coherent_tickEvent (h.coherent ho) }
  line u hown h := by
    cases hj : u.job with
    | none => rwa [blockLine_none u hj]
    | some j =>
      have hr := blockLine_raises hj
      have hline : BitsIn (lineBits j) own :=
        h.owned j hj ▸ lineBits_bitsIn_ownBits fun ho => hj ▸ (h.coherent ((hown j hj).symm.trans ho)).st_ok
      exact {
        raised := hr.diag ▸ h.raised.or (hline.trans (bitsIn_or_right d own))
        owned := fun j' hj' => (hr.next j' hj').trans (h.owned j hj)
        coherent := fun ho => coherent_blockLine (h.coherent ho) }

theorem coherent_started_of_connect {i : Instr} (hc : Coherent s) (hb : s.busy = false) (hj : firstJob s.cfg i = some j)
    (ho : instrOwner i = .connect) : Coherent (started s j) := by
  cases i <;> cases ho
  cases hj
  exact coherent_started hc hb

/-- R256: the bits a command that can wait has set when it ends. -/
theorem bitsIn_resume {i : Instr} (hc : Coherent s) (hb : s.busy = false) (hn : NoReset s)
    (hj : firstJob s.cfg i = some j) : BitsIn (started s j).resume.diag (s.diag ||| raisable i) := by
  have hown := ownBits_firstJob hj
  have hstart : RaisesOwn (instrOwner i) (raisable i) s.diag (started s j) := {
    raised := bitsIn_or_left _ _
    owned := fun _ hj' => Option.some.inj hj' ▸ hown
    coherent := coherent_started_of_connect hc hb hj }
  have hk := keptBy_raisesOwn (o := instrOwner i) (d := s.diag) (hown ▸ rxovr_bitsIn_ownBits j)
  exact (hk.resume (s := started s j) hn (fun _ hj' => Option.some.inj hj' ▸ jobOwner_firstJob hj) hstart).raised

/-- Settles O55: `DIAG` sticks by the effect of the command, and of the things an instruction can do, each raises bits of its
own. -/
theorem eachCommandRaisesItsOwnBits : Obligations.EachCommandRaisesItsOwnBits := by
  intro s t i hc hb hn he
  have hraised : BitsIn t.diag (s.diag ||| raisable i) := by
    obtain ⟨-, rfl⟩ | ⟨j, hj, rfl⟩ | ⟨rfl, rfl⟩ | ⟨c, rfl, rfl⟩ | ⟨hi, p, rfl⟩ := exec_cases hb he
    · exact bitsIn_or_left _ _
    · exact bitsIn_resume hc hb hn hj
    · split <;> exact bitsIn_or_left _ _
    · exact BitVec.or_self
    · exact raisable_arrival hi ▸ bitsIn_arriveAll (bytesOf p)
  exact ⟨(effect_exec hb hn he).diag, hraised.and_not⟩

end Sys2Proof.Proofs

/-! Proofs for the family 70_reset_and_hazards.md: the fields of the wire rows that tell the rows apart, which row the decoder
reads a trajectory packet as, and the statement about the two trajectory commands. -/

namespace Sys2Proof.Proofs

open Sys2Proof.Machine

variable {cfg : Config} {a : Axis} {c : Byte}

/-! ### The opcodes of the wire rows, and the header of the trajectory rows -/

@[simp] theorem rowPing_opcode : rowPing.opcode = opOpmode := rfl
@[simp] theorem rowPingResponse_opcode : rowPingResponse.opcode = 0x00#8 := rfl
@[simp] theorem rowClearfaults_opcode : (rowClearfaults cfg).opcode = opSetvar := by unfold rowClearfaults; split <;> rfl
@[simp] theorem rowSettrajabs_opcode : (rowSettrajabs a c).opcode = opSetvar := rfl
@[simp] theorem rowAmpon_opcode : (rowAmpon cfg a c).opcode = opSetvar := by unfold rowAmpon; split <;> rfl
@[simp] theorem rowAmpoff_opcode : (rowAmpoff a c).opcode = opSetvar := rfl
@[simp] theorem rowHome_opcode : (rowHome cfg a c).opcode = opTraj := by unfold rowHome; split <;> rfl
@[simp] theorem rowStartmove_opcode : (rowStartmove cfg a c).opcode = opTraj := by unfold rowStartmove; split <;> rfl
@[simp] theorem rowReadpos_opcode : (rowReadpos a c).opcode = opGetvar := rfl
@[simp] theorem rowSetpos_opcode {v : Word32} : (rowSetpos cfg a c v).opcode = opSetvar := by
  unfold rowSetpos; split <;> rfl

/-- The field `a` of a row is the low three bits of its node byte `00000aaa`. -/
theorem axis_of_nodeByte (a : Axis) : (0b00000#5 ++ a : Byte).extractLsb' 0 3 = a := BitVec.extractLsb'_append_eq_right

@[simp] theorem rowHome_axis : (rowHome cfg a c).node.extractLsb' 0 3 = a := by
  unfold rowHome; split <;> exact axis_of_nodeByte a
@[simp] theorem rowStartmove_axis : (rowStartmove cfg a c).node.extractLsb' 0 3 = a := by
  unfold rowStartmove; split <;> exact axis_of_nodeByte a
@[simp] theorem rowHome_checksum : (rowHome cfg a c).checksum = c := by unfold rowHome; split <;> rfl
@[simp] theorem rowStartmove_checksum : (rowStartmove cfg a c).checksum = c := by unfold rowStartmove; split <;> rfl

/-- R308, C4: without the sub-command nothing tells the two rows apart. -/
theorem rowStartmove_eq_rowHome (h : cfg.trajSubcmd = .none) (a : Axis) (c : Byte) :
    rowStartmove cfg a c = rowHome cfg a c := by
  simp only [rowStartmove, rowHome, h]

/-- R155, R156: the sub-command in the payload tells the two rows apart. -/
theorem rowStartmove_ne_rowHome (h : cfg.trajSubcmd = .payloadWord) (a : Axis) (c : Byte) :
    rowStartmove cfg a c ≠ rowHome cfg a c := by
  simp [rowStartmove, rowHome, h]

/-! ### How a trajectory packet is read -/

theorem decode_wireOf (p : Packet) : decode cfg (wireOf p) = .ok (classifyPacket cfg p) := rfl

/-- The rows tried before `WIRE.HOME` and after `WIRE.STARTMOVE` have other opcodes, so only these two are left. -/
theorem classifyPacket_of_opTraj {p : Packet} (ho : p.opcode = opTraj) :
    classifyPacket cfg p =
      if p = rowHome cfg (p.node.extractLsb' 0 3) p.checksum then .wireHome (p.node.extractLsb' 0 3) p.checksum
      else if p = rowStartmove cfg (p.node.extractLsb' 0 3) p.checksum then
        .wireStartmove (p.node.extractLsb' 0 3) p.checksum
      else .wireGeneric p := by
  have hne {q : Packet} {o : Byte} (hq : q.opcode = o) (hd : o ≠ opTraj) : p ≠ q := fun h => hd (hq ▸ h ▸ ho)
  have hget : opGetvar ≠ opTraj := by decide
  have hset : opSetvar ≠ opTraj := by decide
  simp only [classifyPacket, hne rowPing_opcode (by decide), hne rowPingResponse_opcode (by decide),
    hne rowClearfaults_opcode hset, hne rowSettrajabs_opcode hset, hne rowAmpon_opcode hset, hne rowAmpoff_opcode hset,
    hne rowReadpos_opcode hget, hne rowSetpos_opcode hset, if_false]

theorem classifyPacket_rowHome (a : Axis) (c : Byte) : classifyPacket cfg (rowHome cfg a c) = .wireHome a c := by
  rw [classifyPacket_of_opTraj rowHome_opcode, rowHome_axis, rowHome_checksum, if_pos rfl]

theorem classifyPacket_rowStartmove (h : cfg.trajSubcmd = .payloadWord) (a : Axis) (c : Byte) :
    classifyPacket cfg (rowStartmove cfg a c) = .wireStartmove a c := by
  rw [classifyPacket_of_opTraj rowStartmove_opcode, rowStartmove_axis, rowStartmove_checksum,
    if_neg (rowStartmove_ne_rowHome h a c), if_pos rfl]

/-! ### The two commands -/

/-- R155, R156: a sub-command that travels is the last byte of the payload. -/
theorem trajPacket_inj {sub sub' : Byte} (h : cfg.trajSubcmd = .payloadWord)
    (he : trajPacket cfg a sub = trajPacket cfg a sub') : sub = sub' := by
  rw [trajPacket_payloadWord cfg a sub h, trajPacket_payloadWord cfg a sub' h] at he
  have hpayload : [0x00#8, sub] = [0x00#8, sub'] := congrArg Packet.payload he
  simpa using hpayload

/-- Settles O4: without the sub-command the two packets are one header and the rows one word, read as `WIRE.HOME` (log
entry 15); with it the packets differ in their last byte, and so do the rows. -/
theorem homeAndStartmoveAreOneWord : Obligations.HomeAndStartmoveAreOneWord := by
  intro cfg a c
  refine ⟨fun h => ?_, fun h => ⟨fun he => ?_, ?_⟩⟩
  · have hhome := trajPacket_none cfg a subHome h
    have hmove := trajPacket_none cfg a subMove h
    have hword : encode cfg (.wireStartmove a c) = encode cfg (.wireHome a c) :=
      congrArg wireOf (rowStartmove_eq_rowHome h a c)
    refine ⟨hhome.trans hmove.symm, congrArg (fun p => (wireBytes p).length) hhome, hword, ?_⟩
    rw [hword, encode, decode_wireOf, classifyPacket_rowHome]
  · exact absurd (trajPacket_inj h he) (by decide)
  · rw [encode, decode_wireOf, classifyPacket_rowStartmove h]

end Sys2Proof.Proofs

/-! Proofs for the family 'other': which row the decoder reads each well-formed wire word as, the two directions between words
and instructions, the catalog's packets as rows of the table, and the statements about the wire rows and about reset. -/

namespace Sys2Proof.Proofs

open Sys2Proof.Machine

variable {cfg : Config} {a : Axis} {c : Byte} {v : Word32} {p q : Packet} {s : State} {i : Instr}

/-! ### The fields of the set-variable and read-position rows -/

@[simp] theorem rowSettrajabs_axis : (rowSettrajabs a c).node.extractLsb' 0 3 = a := axis_of_nodeByte a
@[simp] theorem rowAmpon_axis : (rowAmpon cfg a c).node.extractLsb' 0 3 = a := by
  unfold rowAmpon; split <;> exact axis_of_nodeByte a
@[simp] theorem rowAmpoff_axis : (rowAmpoff a c).node.extractLsb' 0 3 = a := axis_of_nodeByte a
@[simp] theorem rowReadpos_axis : (rowReadpos a c).node.extractLsb' 0 3 = a := axis_of_nodeByte a
@[simp] theorem rowSetpos_axis : (rowSetpos cfg a c v).node.extractLsb' 0 3 = a := by
  unfold rowSetpos; split <;> exact axis_of_nodeByte a

@[simp] theorem rowSettrajabs_checksum : (rowSettrajabs a c).checksum = c := rfl
@[simp] theorem rowAmpon_checksum : (rowAmpon cfg a c).checksum = c := by unfold rowAmpon; split <;> rfl
@[simp] theorem rowAmpoff_checksum : (rowAmpoff a c).checksum = c := rfl
@[simp] theorem rowReadpos_checksum : (rowReadpos a c).checksum = c := rfl
@[simp] theorem rowSetpos_checksum : (rowSetpos cfg a c v).checksum = c := by unfold rowSetpos; split <;> rfl

/-- R92: the four value bytes of the row hold the position, in either wire order. -/
@[simp] theorem setposField_rowSetpos : setposField cfg (rowSetpos cfg a c v).payload = v := by
  have hread : setposField cfg (rowSetpos cfg a c v).payload = int32Of cfg.intWireOrder (val32 cfg.intWireOrder v) := by
    unfold rowSetpos
    cases ho : cfg.intWireOrder <;> simp only [setposField, ho] <;> rfl
  rw [hread, int32Of_val32]

/-- R88: the second payload byte is the low byte of the identifier word, the number of the variable. -/
@[simp] theorem rowClearfaults_variable : (rowClearfaults cfg).payload[1]? = some 0xA1#8 := by
  unfold rowClearfaults; split <;> rfl
@[simp] theorem rowSettrajabs_variable : (rowSettrajabs a c).payload[1]? = some 0xC8#8 := by simp [rowSettrajabs]
@[simp] theorem rowAmpon_variable : (rowAmpon cfg a c).payload[1]? = some 0x24#8 := by unfold rowAmpon; split <;> rfl
@[simp] theorem rowAmpoff_variable : (rowAmpoff a c).payload[1]? = some 0x24#8 := by simp [rowAmpoff]
@[simp] theorem rowSetpos_variable : (rowSetpos cfg a c v).payload[1]? = some 0xCA#8 := by unfold rowSetpos; split <;> rfl

/-! ### What tells the rows apart -/

theorem ne_of_opcode_ne (h : p.opcode ≠ q.opcode) : p ≠ q := mt (congrArg Packet.opcode) h

theorem ne_of_variable_ne (h : p.payload[1]? ≠ q.payload[1]?) : p ≠ q := mt (congrArg (·.payload[1]?)) h

/-- R153, R154: the two amplifier rows set one variable, to `0x0015` and to zero. -/
theorem rowAmpoff_ne_rowAmpon {a' : Axis} {c' : Byte} : rowAmpoff a c ≠ rowAmpon cfg a' c' := by
  unfold rowAmpon
  split <;> simp [rowAmpoff]

/-! ### How a packet that is no trajectory request is read -/

/-- Only the rows of the set-variable requests have the opcode of one. -/
theorem classifyPacket_of_opSetvar (ho : p.opcode = opSetvar) :
    classifyPacket cfg p =
      if p = rowClearfaults cfg then .wireClearfaults
      else if p = rowSettrajabs (p.node.extractLsb' 0 3) p.checksum then
        .wireSettrajabs (p.node.extractLsb' 0 3) p.checksum
      else if p = rowAmpon cfg (p.node.extractLsb' 0 3) p.checksum then .wireAmpon (p.node.extractLsb' 0 3) p.checksum
      else if p = rowAmpoff (p.node.extractLsb' 0 3) p.checksum then .wireAmpoff (p.node.extractLsb' 0 3) p.checksum
      else if p = rowSetpos cfg (p.node.extractLsb' 0 3) p.checksum (setposField cfg p.payload) then
        .wireSetpos (p.node.extractLsb' 0 3) p.checksum (setposField cfg p.payload)
      else .wireGeneric p := by
  have hne {q : Packet} {o : Byte} (hq : q.opcode = o) (hd : opSetvar ≠ o) : p ≠ q := ne_of_opcode_ne (ho ▸ hq ▸ hd)
  have htraj : opSetvar ≠ opTraj := by decide
  simp only [classifyPacket, hne rowPing_opcode (by decide), hne rowPingResponse_opcode (by decide),
    hne rowHome_opcode htraj, hne rowStartmove_opcode htraj, hne rowReadpos_opcode (by decide), if_false]

theorem classifyPacket_rowClearfaults : classifyPacket cfg (rowClearfaults cfg) = .wireClearfaults := by
  rw [classifyPacket_of_opSetvar rowClearfaults_opcode, if_pos rfl]

theorem classifyPacket_rowSettrajabs : classifyPacket cfg (rowSettrajabs a c) = .wireSettrajabs a c := by
  rw [classifyPacket_of_opSetvar rowSettrajabs_opcode]
  simp [ne_of_variable_ne]

theorem classifyPacket_rowAmpon : classifyPacket cfg (rowAmpon cfg a c) = .wireAmpon a c := by
  rw [classifyPacket_of_opSetvar rowAmpon_opcode]
  simp [ne_of_variable_ne]

theorem classifyPacket_rowAmpoff : classifyPacket cfg (rowAmpoff a c) = .wireAmpoff a c := by
  rw [classifyPacket_of_opSetvar rowAmpoff_opcode]
  simp [ne_of_variable_ne, rowAmpoff_ne_rowAmpon]

theorem classifyPacket_rowSetpos : classifyPacket cfg (rowSetpos cfg a c v) = .wireSetpos a c v := by
  rw [classifyPacket_of_opSetvar rowSetpos_opcode]
  simp [ne_of_variable_ne]

/-- No other row has the opcode of a read-position request. -/
theorem classifyPacket_rowReadpos : classifyPacket cfg (rowReadpos a c) = .wireReadpos a c := by
  have hne {q : Packet} {o : Byte} (hq : q.opcode = o) (ho : opGetvar ≠ o) : rowReadpos a c ≠ q := ne_of_opcode_ne (hq ▸ ho)
  have hset : opGetvar ≠ opSetvar := by decide
  have htraj : opGetvar ≠ opTraj := by decide
  simp only [classifyPacket, rowReadpos_axis, rowReadpos_checksum, hne rowPing_opcode (by decide),
    hne rowPingResponse_opcode (by decide), hne rowClearfaults_opcode hset, hne rowSettrajabs_opcode hset,
    hne rowAmpon_opcode hset, hne rowAmpoff_opcode hset, hne rowHome_opcode htraj, hne rowStartmove_opcode htraj, if_false,
    if_true]

/-! ### The two directions -/

/-- The decoder's answer for the word of a wire row is the row the packet is read as. -/
theorem decode_encode_wire (h : encode cfg i = wireOf p) (hp : classifyPacket cfg p = i) :
    decode cfg (encode cfg i) = .ok i := by
  rw [h, decode_wireOf, hp]

/-- Settles O2: a command's code selects its own arm, which takes the fields the encoder filled; a wire row's packet is read
as that row. -/
theorem decodeInvertsEncode : Obligations.DecodeInvertsEncode := by
  intro cfg i hi
  cases i
  case encode | chkvalid | sealPkt => exact withPkt_of_fits (of_decide_eq_true hi)
  case exchange p tmo => exact withPkt_of_fits (f := (.exchange · tmo)) (of_decide_eq_true hi)
  case decode => exact withBytes_of_fits hi
  case reserved => exact decodeCmd_reserved (by simpa [WellFormed] using hi)
  case wirePing | wirePingResponse => exact decode_encode_wire rfl rfl
  case wireClearfaults => exact decode_encode_wire rfl classifyPacket_rowClearfaults
  case wireSettrajabs => exact decode_encode_wire rfl classifyPacket_rowSettrajabs
  case wireAmpon => exact decode_encode_wire rfl classifyPacket_rowAmpon
  case wireAmpoff => exact decode_encode_wire rfl classifyPacket_rowAmpoff
  case wireHome a c => exact decode_encode_wire rfl (classifyPacket_rowHome a c)
  case wireStartmove a c => exact decode_encode_wire rfl (classifyPacket_rowStartmove (of_decide_eq_true hi) a c)
  case wireReadpos => exact decode_encode_wire rfl classifyPacket_rowReadpos
  case wireSetpos => exact decode_encode_wire rfl classifyPacket_rowSetpos
  case wireGeneric => exact decode_encode_wire rfl (of_decide_eq_true hi)
  all_goals rfl

theorem encode_ite {b : Prop} [Decidable b] {w : PortWord} {j : Instr} (hi : b → encode cfg i = w)
    (hj : ¬b → encode cfg j = w) : encode cfg (if b then i else j) = w := by
  split
  · exact hi ‹_›
  · exact hj ‹_›

/-- A packet is read as a row only when it is that row with the packet's own fields, so the row's word is the packet's. -/
theorem encode_classifyPacket (cfg : Config) (p : Packet) : encode cfg (classifyPacket cfg p) = wireOf p := by
  unfold classifyPacket
  iterate 10 refine encode_ite (fun hrow => (congrArg wireOf hrow).symm) fun _ => ?_
  rfl

theorem encode_of_decodeWire {bytes : List Byte} (h : decodeWire cfg bytes = .ok i) : encode cfg i = .wire bytes := by
  unfold decodeWire at h
  split at h
  · cases h
    exact encode_classifyPacket cfg _
  · cases h

/-- Settles O3: a packet's row holds all its bytes, and what the decoder gives is well-formed by `decode_wellFormed`. -/
theorem decodedWireBytesAreKept : Obligations.DecodedWireBytesAreKept :=
  ⟨fun _ _ _ => encode_of_decodeWire, fun _ _ _ => decode_wellFormed⟩

/-! ### The catalog's packets as rows -/

/-- R81: the node byte of a request as the row prints it, `00000aaa`. -/
theorem ofNat_axis_eq_nodeByte (a : Axis) : BitVec.ofNat 8 a.toNat = 0b00000#5 ++ a := by revert a; decide

/-- R88: the identifier word's high byte as the row prints it, `aaa00000`. -/
theorem ofNat_axis_eq_vidByte (a : Axis) : BitVec.ofNat 8 (32 * a.toNat) = a ++ 0b00000#5 := by revert a; decide

/-- A request on an axis with its fields as the rows print them; the checksum is the packet's own. -/
theorem axisRequest_eq_row (a : Axis) (dataSize opcode var : Byte) (value : List Byte) :
    axisRequest a dataSize opcode var value =
      ⟨0b00000#5 ++ a, (axisRequest a dataSize opcode var value).checksum, dataSize, opcode,
        (a ++ 0b00000#5) :: var :: value⟩ := by
  rw [← ofNat_axis_eq_nodeByte, ← ofNat_axis_eq_vidByte]
  rfl

theorem settrajabsPacket_eq_row (cfg : Config) (a : Axis) :
    settrajabsPacket cfg a = rowSettrajabs a (settrajabsPacket cfg a).checksum := by
  rw [settrajabsPacket_eq]
  exact axisRequest_eq_row ..

theorem ampoffPacket_eq_row (cfg : Config) (a : Axis) : ampoffPacket cfg a = rowAmpoff a (ampoffPacket cfg a).checksum := by
  rw [ampoffPacket_eq]
  exact axisRequest_eq_row ..

theorem readposPacket_eq_row (a : Axis) : readposPacket a = rowReadpos a (readposPacket a).checksum := by
  rw [readposPacket_eq_readposRequest]
  exact axisRequest_eq_row ..

theorem amponPacket_eq_row (cfg : Config) (a : Axis) :
    amponPacket cfg a = rowAmpon cfg a (amponPacket cfg a).checksum := by
  rw [amponPacket_eq, rowAmpon]
  cases cfg.intWireOrder <;> exact axisRequest_eq_row ..

theorem setposPacket_eq_row (cfg : Config) (a : Axis) (v : Word32) :
    setposPacket cfg a v = rowSetpos cfg a (setposPacket cfg a v).checksum v := by
  rw [setposPacket_eq, rowSetpos]
  cases cfg.intWireOrder <;> exact axisRequest_eq_row ..

/-- R155, R156: a trajectory request as the rows print it, in both forms. -/
theorem trajPacket_eq_row (cfg : Config) (a : Axis) (sub : Byte) :
    trajPacket cfg a sub =
      ⟨0b00000#5 ++ a, (trajPacket cfg a sub).checksum, if cfg.trajSubcmd = .none then 0x00#8 else 0x01#8, 0x11#8,
        if cfg.trajSubcmd = .none then [] else [0x00#8, sub]⟩ := by
  rw [← ofNat_axis_eq_nodeByte]
  cases h : cfg.trajSubcmd
  · rw [trajPacket_none cfg a sub h]
    rfl
  · rw [trajPacket_payloadWord cfg a sub h]
    rfl

theorem homePacket_eq_row (cfg : Config) (a : Axis) : homePacket cfg a = rowHome cfg a (homePacket cfg a).checksum := by
  refine (trajPacket_eq_row cfg a subHome).trans ?_
  rw [rowHome, homePacket]
  cases cfg.trajSubcmd <;> rfl

theorem startmovePacket_eq_row (cfg : Config) (a : Axis) :
    startmovePacket cfg a = rowStartmove cfg a (startmovePacket cfg a).checksum := by
  refine (trajPacket_eq_row cfg a subMove).trans ?_
  rw [rowStartmove, startmovePacket]
  cases cfg.trajSubcmd <;> rfl

/-- Settles O5, by the equation of each packet. -/
theorem catalogPacketsFitTheirWireRows : Obligations.CatalogPacketsFitTheirWireRows :=
  fun cfg a v => ⟨pingPacket_eq, (clearfaultsPacket_eq_clearRequest cfg).trans (rowClearfaults_eq_clearRequest cfg).symm,
    settrajabsPacket_eq_row cfg a, amponPacket_eq_row cfg a, ampoffPacket_eq_row cfg a, homePacket_eq_row cfg a,
    startmovePacket_eq_row cfg a, readposPacket_eq_row a, setposPacket_eq_row cfg a v⟩

/-! ### The wire rows as instructions -/

/-- Log entry 4: a command that is one exchange ends with the packet it returns. -/
theorem exec_request_quiet {tmo : BitVec 16} (hq : Quiet s) (hst : s.st = .closed ∨ s.st = .idle)
    (hj : firstJob s.cfg i = some (.xchg .exchange (.test p tmo))) :
    exec i s = .next (endedWith (afterXchg s p tmo) (.pkt (answerTo s p))) :=
  exec_xchg_quiet hq hst hj (quiet_afterXchg hq) (.done _)

/-- Settles O58: each request row begins with the exchange of its packet. -/
theorem wireRequestsAreExchanged : Obligations.WireRequestsAreExchanged := by
  intro s hq hst
  refine ⟨exec_request_quiet hq hst rfl, ?_, fun a c v i p hrow => exec_request_quiet hq hst ?_⟩
  · rw [← rowClearfaults_eq_clearRequest]
    exact exec_request_quiet hq hst rfl
  · simp only [List.mem_cons, List.not_mem_nil, or_false, Prod.mk.injEq] at hrow
    obtain ⟨rfl, rfl⟩ | ⟨rfl, rfl⟩ | ⟨rfl, rfl⟩ | ⟨rfl, rfl⟩ | ⟨rfl, rfl⟩ | ⟨rfl, rfl⟩ | ⟨rfl, rfl⟩ := hrow <;> rfl

/-- Settles O59: the packet's bytes arrive one after another, in `Closed`, on an unbounded queue or on a bounded one. -/
theorem wirePacketsArrive : Obligations.WirePacketsArrive := by
  intro s i p hi
  have hexec : exec i s = .next (s.arriveAll (wireBytes p)) := by
    obtain ⟨rfl, rfl⟩ | rfl := hi <;> rfl
  rw [hexec]
  exact ⟨fun h => congrArg _ (arriveAll_closed s _ h), fun h hd => congrArg _ (arriveAll_unbounded s _ h hd),
    fun _ h hd hl => congrArg _ (arriveAll_bounded _ h hd hl)⟩

/-! ### Reset -/

/-- R291: reset ends a command in flight, and the run with it. -/
theorem resume_reset {ins : List Input} (hb : s.busy = true) (hi : s.inputs = .reset :: ins) :
    s.resume = State.resetWith s.cfg s.opens ins := by
  obtain ⟨n, hn⟩ : ∃ n, s.bound = n + 1 := Nat.exists_eq_add_one.2 (by unfold State.bound; omega)
  rw [State.resume, hn, runFor_cycle s n hb (by simp [hi]), cycle_reset s ins hi, runFor_ended _ n rfl]

/-- R290, R291: in a command and between commands the step that takes reset answers the reset values. -/
theorem step_reset {ins : List Input} (hi : s.inputs = .reset :: ins) :
    step s = .next (State.resetWith s.cfg s.opens ins) := by
  cases hb : s.busy with
  | true => rw [step_busy s hb, resume_reset (s := s.lowerDone) hb hi]; rfl
  | false => exact step_event s .reset ins hb hi nofun

/-- Settles O14, by the values of `State.resetWith`. -/
theorem resetFromAnyState : Obligations.ResetFromAnyState := by
  intro s ins hi
  have hlastpos (a : Axis) : (State.resetWith s.cfg s.opens ins).lastposAt a = 0#32 := Vector.getElem_replicate _
  exact ⟨_, step_reset hi, rfl, rfl, rfl, rfl, rfl, rfl, hlastpos, rfl, rfl, rfl, rfl, rfl, rfl, rfl, rfl, rfl⟩

end Sys2Proof.Proofs
